-- ==== Sys2Proof/Word.lean ====
section
/-! DEFINITION. The two word types of the core: 8-bit bytes and 16-bit CPU addresses (00_scope.md R9, R11). -/

namespace Sys2Proof

/-- Every CPU register but PC, and every bus byte (R9). -/
abbrev Byte := BitVec 8

/-- PC and every CPU address (R9, R200). -/
abbrev Word := BitVec 16

end Sys2Proof
end

