-- ==== Sys2Proof/Syntax.lean ====
section
/-! DEFINITION. The syntax of the instruction set: the addressing forms of 30_encoding.md R301, the mnemonics, and
`Instr`, one constructor for each of the 256 rows of spec/opcode_table.json (R325).

An operand byte is a `Byte`, an absolute operand a `Word`, and the displacement of a branch the integer it stands for
(R308), so that register and bit-field work is done once, in Decode.lean. A row whose mnemonic and mode are shared
with another row carries its opcode in its name (`nopZp04`, `ancImm2B`, `jam12`). -/

namespace Sys2Proof

/-- The eight ways an instruction names a byte of memory (R304-R307, R309, R310). -/
inductive MemForm where
  /-- zero page (R304) -/
  | zp (n : Byte)
  /-- zero page, X (R305) -/
  | zpx (n : Byte)
  /-- zero page, Y (R305) -/
  | zpy (n : Byte)
  /-- absolute (R306) -/
  | abs (a : Word)
  /-- absolute, X (R307) -/
  | abx (a : Word)
  /-- absolute, Y (R307) -/
  | aby (a : Word)
  /-- indexed indirect, `($nn,X)` (R309) -/
  | izx (n : Byte)
  /-- indirect indexed, `($nn),Y` (R310) -/
  | izy (n : Byte)
  deriving DecidableEq, Repr

/-- Where a read instruction takes its operand value from (R303, R314). -/
inductive Source where
  /-- immediate (R303) -/
  | imm (n : Byte)
  /-- a byte of memory (R314) -/
  | mem (m : MemForm)
  deriving DecidableEq, Repr

/-- The operand form of an instruction: its mode of R301 with the operand bytes it holds. -/
inductive Form where
  /-- implied (R302) -/
  | implied
  /-- accumulator (R302) -/
  | accumulator
  /-- BRK's signature byte (R300, R564) -/
  | signature (n : Byte)
  /-- immediate or memory (R303-R310); the absolute target of JMP and JSR is `.mem (.abs a)` -/
  | operand (o : Source)
  /-- relative (R308) -/
  | relative (d : Int)
  /-- absolute indirect, JMP only (R311) -/
  | indirect (a : Word)
  deriving DecidableEq, Repr

/-- The 76 mnemonics of spec/opcode_table.json. -/
inductive Mnemonic where
  | brk | ora | jam | slo | nop | asl | php | anc | bpl | clc | jsr | and | rla | bit | rol | plp | bmi | sec
  | rti | eor | sre | lsr | pha | alr | jmp | bvc | cli | rts | adc | rra | ror | pla | arr | bvs | sei | sta
  | sax | sty | stx | dey | txa | ane | bcc | sha | tya | txs | tas | shy | shx | ldy | lda | ldx | lax | tay
  | tax | lxa | bcs | clv | tsx | las | cpy | cmp | dcp | dec | iny | dex | sbx | bne | cld | cpx | sbc | isc
  | inc | inx | beq | sed
  deriving DecidableEq, Repr

/-- The instructions: the rows of R325's opcode map, one constructor each. The rows with operand bytes come first,
line by line of the map, then the rows without (Lean's compiler allows only the latter above tag 244). -/
inductive Instr where
  -- 0x0x
  | brk (sig : Byte) | oraIzx (n : Byte) | sloIzx (n : Byte) | nopZp04 (n : Byte) | oraZp (n : Byte)
  | aslZp (n : Byte) | sloZp (n : Byte) | oraImm (n : Byte) | ancImm0B (n : Byte) | nopAbs (a : Word)
  | oraAbs (a : Word) | aslAbs (a : Word) | sloAbs (a : Word)
  -- 0x1x
  | bpl (d : Int) | oraIzy (n : Byte) | sloIzy (n : Byte) | nopZpx14 (n : Byte) | oraZpx (n : Byte)
  | aslZpx (n : Byte) | sloZpx (n : Byte) | oraAby (a : Word) | sloAby (a : Word) | nopAbx1C (a : Word)
  | oraAbx (a : Word) | aslAbx (a : Word) | sloAbx (a : Word)
  -- 0x2x
  | jsr (a : Word) | andIzx (n : Byte) | rlaIzx (n : Byte) | bitZp (n : Byte) | andZp (n : Byte)
  | rolZp (n : Byte) | rlaZp (n : Byte) | andImm (n : Byte) | ancImm2B (n : Byte) | bitAbs (a : Word)
  | andAbs (a : Word) | rolAbs (a : Word) | rlaAbs (a : Word)
  -- 0x3x
  | bmi (d : Int) | andIzy (n : Byte) | rlaIzy (n : Byte) | nopZpx34 (n : Byte) | andZpx (n : Byte)
  | rolZpx (n : Byte) | rlaZpx (n : Byte) | andAby (a : Word) | rlaAby (a : Word) | nopAbx3C (a : Word)
  | andAbx (a : Word) | rolAbx (a : Word) | rlaAbx (a : Word)
  -- 0x4x
  | eorIzx (n : Byte) | sreIzx (n : Byte) | nopZp44 (n : Byte) | eorZp (n : Byte) | lsrZp (n : Byte)
  | sreZp (n : Byte) | eorImm (n : Byte) | alrImm (n : Byte) | jmpAbs (a : Word) | eorAbs (a : Word)
  | lsrAbs (a : Word) | sreAbs (a : Word)
  -- 0x5x
  | bvc (d : Int) | eorIzy (n : Byte) | sreIzy (n : Byte) | nopZpx54 (n : Byte) | eorZpx (n : Byte)
  | lsrZpx (n : Byte) | sreZpx (n : Byte) | eorAby (a : Word) | sreAby (a : Word) | nopAbx5C (a : Word)
  | eorAbx (a : Word) | lsrAbx (a : Word) | sreAbx (a : Word)
  -- 0x6x
  | adcIzx (n : Byte) | rraIzx (n : Byte) | nopZp64 (n : Byte) | adcZp (n : Byte) | rorZp (n : Byte)
  | rraZp (n : Byte) | adcImm (n : Byte) | arrImm (n : Byte) | jmpInd (a : Word) | adcAbs (a : Word)
  | rorAbs (a : Word) | rraAbs (a : Word)
  -- 0x7x
  | bvs (d : Int) | adcIzy (n : Byte) | rraIzy (n : Byte) | nopZpx74 (n : Byte) | adcZpx (n : Byte)
  | rorZpx (n : Byte) | rraZpx (n : Byte) | adcAby (a : Word) | rraAby (a : Word) | nopAbx7C (a : Word)
  | adcAbx (a : Word) | rorAbx (a : Word) | rraAbx (a : Word)
  -- 0x8x
  | nopImm80 (n : Byte) | staIzx (n : Byte) | nopImm82 (n : Byte) | saxIzx (n : Byte) | styZp (n : Byte)
  | staZp (n : Byte) | stxZp (n : Byte) | saxZp (n : Byte) | nopImm89 (n : Byte) | aneImm (n : Byte)
  | styAbs (a : Word) | staAbs (a : Word) | stxAbs (a : Word) | saxAbs (a : Word)
  -- 0x9x
  | bcc (d : Int) | staIzy (n : Byte) | shaIzy (n : Byte) | styZpx (n : Byte) | staZpx (n : Byte)
  | stxZpy (n : Byte) | saxZpy (n : Byte) | staAby (a : Word) | tasAby (a : Word) | shyAbx (a : Word)
  | staAbx (a : Word) | shxAby (a : Word) | shaAby (a : Word)
  -- 0xAx
  | ldyImm (n : Byte) | ldaIzx (n : Byte) | ldxImm (n : Byte) | laxIzx (n : Byte) | ldyZp (n : Byte)
  | ldaZp (n : Byte) | ldxZp (n : Byte) | laxZp (n : Byte) | ldaImm (n : Byte) | lxaImm (n : Byte)
  | ldyAbs (a : Word) | ldaAbs (a : Word) | ldxAbs (a : Word) | laxAbs (a : Word)
  -- 0xBx
  | bcs (d : Int) | ldaIzy (n : Byte) | laxIzy (n : Byte) | ldyZpx (n : Byte) | ldaZpx (n : Byte)
  | ldxZpy (n : Byte) | laxZpy (n : Byte) | ldaAby (a : Word) | lasAby (a : Word) | ldyAbx (a : Word)
  | ldaAbx (a : Word) | ldxAby (a : Word) | laxAby (a : Word)
  -- 0xCx
  | cpyImm (n : Byte) | cmpIzx (n : Byte) | nopImmC2 (n : Byte) | dcpIzx (n : Byte) | cpyZp (n : Byte)
  | cmpZp (n : Byte) | decZp (n : Byte) | dcpZp (n : Byte) | cmpImm (n : Byte) | sbxImm (n : Byte)
  | cpyAbs (a : Word) | cmpAbs (a : Word) | decAbs (a : Word) | dcpAbs (a : Word)
  -- 0xDx
  | bne (d : Int) | cmpIzy (n : Byte) | dcpIzy (n : Byte) | nopZpxD4 (n : Byte) | cmpZpx (n : Byte)
  | decZpx (n : Byte) | dcpZpx (n : Byte) | cmpAby (a : Word) | dcpAby (a : Word) | nopAbxDC (a : Word)
  | cmpAbx (a : Word) | decAbx (a : Word) | dcpAbx (a : Word)
  -- 0xEx
  | cpxImm (n : Byte) | sbcIzx (n : Byte) | nopImmE2 (n : Byte) | iscIzx (n : Byte) | cpxZp (n : Byte)
  | sbcZp (n : Byte) | incZp (n : Byte) | iscZp (n : Byte) | sbcImm (n : Byte) | sbcImmEB (n : Byte)
  | cpxAbs (a : Word) | sbcAbs (a : Word) | incAbs (a : Word) | iscAbs (a : Word)
  -- 0xFx
  | beq (d : Int) | sbcIzy (n : Byte) | iscIzy (n : Byte) | nopZpxF4 (n : Byte) | sbcZpx (n : Byte)
  | incZpx (n : Byte) | iscZpx (n : Byte) | sbcAby (a : Word) | iscAby (a : Word) | nopAbxFC (a : Word)
  | sbcAbx (a : Word) | incAbx (a : Word) | iscAbx (a : Word)
  -- the rows without an operand byte
  | jam02 | php | aslAcc | jam12 | clc | nop1A | jam22 | plp | rolAcc | jam32 | sec | nop3A | rti | jam42
  | pha | lsrAcc | jam52 | cli | nop5A | rts | jam62 | pla | rorAcc | jam72 | sei | nop7A | dey | txa | jam92
  | tya | txs | tay | tax | jamB2 | clv | tsx | iny | dex | jamD2 | cld | nopDA | inx | nop | jamF2 | sed
  | nopFA
  deriving DecidableEq, Repr

end Sys2Proof
end

