-- ==== Sys2Proof/WellFormed.lean ====
section
/-! DEFINITION. Which instructions are well formed. Every operand byte and every absolute operand is well formed as it
stands (its type holds exactly the values its field holds); the one check is the range of a branch displacement. -/

namespace Sys2Proof

/-- "The displacement range is −128..+127 bytes from the next instruction" (R308). -/
abbrev DisplacementOk (d : Int) : Prop := -128 ≤ d ∧ d ≤ 127

/-- An instruction some encoding stands for. -/
def WellFormed : Instr → Bool
  | .bpl d => decide (DisplacementOk d)
  | .bmi d => decide (DisplacementOk d)
  | .bvc d => decide (DisplacementOk d)
  | .bvs d => decide (DisplacementOk d)
  | .bcc d => decide (DisplacementOk d)
  | .bcs d => decide (DisplacementOk d)
  | .bne d => decide (DisplacementOk d)
  | .beq d => decide (DisplacementOk d)
  | _ => true

end Sys2Proof
end

