-- ==== Sys2Proof/Decode.lean ====
section
/-! DEFINITION. The decoder and the encoder (30_encoding.md R300, R301, R325).

`opcodeRows` is the map of R325 line by line; the opcode byte alone decides the row, and the row says how many operand
bytes follow. The tables after it (`Instr.mnemonic`, `Instr.form`, `Instr.opcode`, `opcodeCycles`) are the columns of the same map read
from the instruction's side. -/

namespace Sys2Proof

/-- What an opcode byte calls for: no operand byte, one, or two in little-endian order (R300, R301, R210). -/
inductive Row where
  | none (i : Instr)
  | byte (f : Byte → Instr)
  | word (f : Word → Instr)

/-- The integer a displacement byte stands for: `sext` of R12. -/
def displacement (b : Byte) : Int := b.toInt

/-- `hi : lo` (R12): the 16-bit quantity whose low byte came first (R210). -/
def hiLo (hi lo : Byte) : Word := hi ++ lo

/-- Opcodes 0x00 to 0x0F (R325). -/
def opcodeRows0 : List Row := [
  .byte .brk, .byte .oraIzx, .none .jam02, .byte .sloIzx, .byte .nopZp04, .byte .oraZp, .byte .aslZp,
  .byte .sloZp, .none .php, .byte .oraImm, .none .aslAcc, .byte .ancImm0B, .word .nopAbs, .word .oraAbs,
  .word .aslAbs, .word .sloAbs]

/-- Opcodes 0x10 to 0x1F (R325). -/
def opcodeRows1 : List Row := [
  .byte (fun b => .bpl (displacement b)), .byte .oraIzy, .none .jam12, .byte .sloIzy, .byte .nopZpx14,
  .byte .oraZpx, .byte .aslZpx, .byte .sloZpx, .none .clc, .word .oraAby, .none .nop1A, .word .sloAby,
  .word .nopAbx1C, .word .oraAbx, .word .aslAbx, .word .sloAbx]

/-- Opcodes 0x20 to 0x2F (R325). -/
def opcodeRows2 : List Row := [
  .word .jsr, .byte .andIzx, .none .jam22, .byte .rlaIzx, .byte .bitZp, .byte .andZp, .byte .rolZp,
  .byte .rlaZp, .none .plp, .byte .andImm, .none .rolAcc, .byte .ancImm2B, .word .bitAbs, .word .andAbs,
  .word .rolAbs, .word .rlaAbs]

/-- Opcodes 0x30 to 0x3F (R325). -/
def opcodeRows3 : List Row := [
  .byte (fun b => .bmi (displacement b)), .byte .andIzy, .none .jam32, .byte .rlaIzy, .byte .nopZpx34,
  .byte .andZpx, .byte .rolZpx, .byte .rlaZpx, .none .sec, .word .andAby, .none .nop3A, .word .rlaAby,
  .word .nopAbx3C, .word .andAbx, .word .rolAbx, .word .rlaAbx]

/-- Opcodes 0x40 to 0x4F (R325). -/
def opcodeRows4 : List Row := [
  .none .rti, .byte .eorIzx, .none .jam42, .byte .sreIzx, .byte .nopZp44, .byte .eorZp, .byte .lsrZp,
  .byte .sreZp, .none .pha, .byte .eorImm, .none .lsrAcc, .byte .alrImm, .word .jmpAbs, .word .eorAbs,
  .word .lsrAbs, .word .sreAbs]

/-- Opcodes 0x50 to 0x5F (R325). -/
def opcodeRows5 : List Row := [
  .byte (fun b => .bvc (displacement b)), .byte .eorIzy, .none .jam52, .byte .sreIzy, .byte .nopZpx54,
  .byte .eorZpx, .byte .lsrZpx, .byte .sreZpx, .none .cli, .word .eorAby, .none .nop5A, .word .sreAby,
  .word .nopAbx5C, .word .eorAbx, .word .lsrAbx, .word .sreAbx]

/-- Opcodes 0x60 to 0x6F (R325). -/
def opcodeRows6 : List Row := [
  .none .rts, .byte .adcIzx, .none .jam62, .byte .rraIzx, .byte .nopZp64, .byte .adcZp, .byte .rorZp,
  .byte .rraZp, .none .pla, .byte .adcImm, .none .rorAcc, .byte .arrImm, .word .jmpInd, .word .adcAbs,
  .word .rorAbs, .word .rraAbs]

/-- Opcodes 0x70 to 0x7F (R325). -/
def opcodeRows7 : List Row := [
  .byte (fun b => .bvs (displacement b)), .byte .adcIzy, .none .jam72, .byte .rraIzy, .byte .nopZpx74,
  .byte .adcZpx, .byte .rorZpx, .byte .rraZpx, .none .sei, .word .adcAby, .none .nop7A, .word .rraAby,
  .word .nopAbx7C, .word .adcAbx, .word .rorAbx, .word .rraAbx]

/-- Opcodes 0x80 to 0x8F (R325). -/
def opcodeRows8 : List Row := [
  .byte .nopImm80, .byte .staIzx, .byte .nopImm82, .byte .saxIzx, .byte .styZp, .byte .staZp, .byte .stxZp,
  .byte .saxZp, .none .dey, .byte .nopImm89, .none .txa, .byte .aneImm, .word .styAbs, .word .staAbs,
  .word .stxAbs, .word .saxAbs]

/-- Opcodes 0x90 to 0x9F (R325). -/
def opcodeRows9 : List Row := [
  .byte (fun b => .bcc (displacement b)), .byte .staIzy, .none .jam92, .byte .shaIzy, .byte .styZpx,
  .byte .staZpx, .byte .stxZpy, .byte .saxZpy, .none .tya, .word .staAby, .none .txs, .word .tasAby,
  .word .shyAbx, .word .staAbx, .word .shxAby, .word .shaAby]

/-- Opcodes 0xA0 to 0xAF (R325). -/
def opcodeRowsA : List Row := [
  .byte .ldyImm, .byte .ldaIzx, .byte .ldxImm, .byte .laxIzx, .byte .ldyZp, .byte .ldaZp, .byte .ldxZp,
  .byte .laxZp, .none .tay, .byte .ldaImm, .none .tax, .byte .lxaImm, .word .ldyAbs, .word .ldaAbs,
  .word .ldxAbs, .word .laxAbs]

/-- Opcodes 0xB0 to 0xBF (R325). -/
def opcodeRowsB : List Row := [
  .byte (fun b => .bcs (displacement b)), .byte .ldaIzy, .none .jamB2, .byte .laxIzy, .byte .ldyZpx,
  .byte .ldaZpx, .byte .ldxZpy, .byte .laxZpy, .none .clv, .word .ldaAby, .none .tsx, .word .lasAby,
  .word .ldyAbx, .word .ldaAbx, .word .ldxAby, .word .laxAby]

/-- Opcodes 0xC0 to 0xCF (R325). -/
def opcodeRowsC : List Row := [
  .byte .cpyImm, .byte .cmpIzx, .byte .nopImmC2, .byte .dcpIzx, .byte .cpyZp, .byte .cmpZp, .byte .decZp,
  .byte .dcpZp, .none .iny, .byte .cmpImm, .none .dex, .byte .sbxImm, .word .cpyAbs, .word .cmpAbs,
  .word .decAbs, .word .dcpAbs]

/-- Opcodes 0xD0 to 0xDF (R325). -/
def opcodeRowsD : List Row := [
  .byte (fun b => .bne (displacement b)), .byte .cmpIzy, .none .jamD2, .byte .dcpIzy, .byte .nopZpxD4,
  .byte .cmpZpx, .byte .decZpx, .byte .dcpZpx, .none .cld, .word .cmpAby, .none .nopDA, .word .dcpAby,
  .word .nopAbxDC, .word .cmpAbx, .word .decAbx, .word .dcpAbx]

/-- Opcodes 0xE0 to 0xEF (R325). -/
def opcodeRowsE : List Row := [
  .byte .cpxImm, .byte .sbcIzx, .byte .nopImmE2, .byte .iscIzx, .byte .cpxZp, .byte .sbcZp, .byte .incZp,
  .byte .iscZp, .none .inx, .byte .sbcImm, .none .nop, .byte .sbcImmEB, .word .cpxAbs, .word .sbcAbs,
  .word .incAbs, .word .iscAbs]

/-- Opcodes 0xF0 to 0xFF (R325). -/
def opcodeRowsF : List Row := [
  .byte (fun b => .beq (displacement b)), .byte .sbcIzy, .none .jamF2, .byte .iscIzy, .byte .nopZpxF4,
  .byte .sbcZpx, .byte .incZpx, .byte .iscZpx, .none .sed, .word .sbcAby, .none .nopFA, .word .iscAby,
  .word .nopAbxFC, .word .sbcAbx, .word .incAbx, .word .iscAbx]

/-- The opcode map of R325, indexed by the opcode byte. -/
def opcodeRows : List Row :=
  opcodeRows0 ++ opcodeRows1 ++ opcodeRows2 ++ opcodeRows3 ++ opcodeRows4 ++ opcodeRows5 ++ opcodeRows6 ++ opcodeRows7 ++
  opcodeRows8 ++ opcodeRows9 ++ opcodeRowsA ++ opcodeRowsB ++ opcodeRowsC ++ opcodeRowsD ++ opcodeRowsE ++ opcodeRowsF

/-- Every one of the 256 opcode values has a row ("256 in all", R325). -/
theorem opcodeRows_length : opcodeRows.length = 256 := by decide +kernel

/-- The row of an opcode byte (R300: "looks up its row, and then knows the length"). -/
def decodeRow (op : Byte) : Row :=
  opcodeRows.get ⟨op.toNat, Nat.lt_of_lt_of_eq op.isLt opcodeRows_length.symm⟩

/-- Why the decoder refuses a list of bytes: every opcode value has a row, so only a missing byte is refused. -/
inductive DecodeError where
  /-- there is no opcode byte -/
  | empty
  /-- the operand bytes of this opcode are not all there -/
  | truncated (op : Byte)
  deriving DecidableEq, Repr

/-- Decodes the instruction at the head of a list of bytes and gives the bytes after it (R300, R301). -/
def decode : List Byte → Except DecodeError (Instr × List Byte)
  | [] => .error .empty
  | op :: rest =>
    match decodeRow op, rest with
    | .none i, rest => .ok (i, rest)
    | .byte f, b :: rest => .ok (f b, rest)
    | .word f, lo :: hi :: rest => .ok (f (hiLo hi lo), rest)
    | _, _ => .error (.truncated op)

/-- The bits of an instruction as spec/opcode_table.json numbers them, as bytes in memory order: the first word is the
opcode byte (bits 7..0), the next bytes follow (bits 15..8, 23..16); bits above `nbits` are 0. -/
def tableBytes (nbits w : Nat) : List Byte :=
  let w := w % 2 ^ nbits
  [BitVec.ofNat 8 w, BitVec.ofNat 8 (w / 256), BitVec.ofNat 8 (w / 65536)]

/-- What the decoder reads from the bits of a table row. -/
def decodeTableWord (nbits w : Nat) : Option Instr :=
  match decode (tableBytes nbits w) with
  | .ok (i, _) => some i
  | .error _ => none

/-- The mnemonic of the instruction's row (R325). -/
def Instr.mnemonic : Instr → Mnemonic
  | .brk _ => .brk
  | .oraIzx _ => .ora
  | .jam02 => .jam
  | .sloIzx _ => .slo
  | .nopZp04 _ => .nop
  | .oraZp _ => .ora
  | .aslZp _ => .asl
  | .sloZp _ => .slo
  | .php => .php
  | .oraImm _ => .ora
  | .aslAcc => .asl
  | .ancImm0B _ => .anc
  | .nopAbs _ => .nop
  | .oraAbs _ => .ora
  | .aslAbs _ => .asl
  | .sloAbs _ => .slo
  | .bpl _ => .bpl
  | .oraIzy _ => .ora
  | .jam12 => .jam
  | .sloIzy _ => .slo
  | .nopZpx14 _ => .nop
  | .oraZpx _ => .ora
  | .aslZpx _ => .asl
  | .sloZpx _ => .slo
  | .clc => .clc
  | .oraAby _ => .ora
  | .nop1A => .nop
  | .sloAby _ => .slo
  | .nopAbx1C _ => .nop
  | .oraAbx _ => .ora
  | .aslAbx _ => .asl
  | .sloAbx _ => .slo
  | .jsr _ => .jsr
  | .andIzx _ => .and
  | .jam22 => .jam
  | .rlaIzx _ => .rla
  | .bitZp _ => .bit
  | .andZp _ => .and
  | .rolZp _ => .rol
  | .rlaZp _ => .rla
  | .plp => .plp
  | .andImm _ => .and
  | .rolAcc => .rol
  | .ancImm2B _ => .anc
  | .bitAbs _ => .bit
  | .andAbs _ => .and
  | .rolAbs _ => .rol
  | .rlaAbs _ => .rla
  | .bmi _ => .bmi
  | .andIzy _ => .and
  | .jam32 => .jam
  | .rlaIzy _ => .rla
  | .nopZpx34 _ => .nop
  | .andZpx _ => .and
  | .rolZpx _ => .rol
  | .rlaZpx _ => .rla
  | .sec => .sec
  | .andAby _ => .and
  | .nop3A => .nop
  | .rlaAby _ => .rla
  | .nopAbx3C _ => .nop
  | .andAbx _ => .and
  | .rolAbx _ => .rol
  | .rlaAbx _ => .rla
  | .rti => .rti
  | .eorIzx _ => .eor
  | .jam42 => .jam
  | .sreIzx _ => .sre
  | .nopZp44 _ => .nop
  | .eorZp _ => .eor
  | .lsrZp _ => .lsr
  | .sreZp _ => .sre
  | .pha => .pha
  | .eorImm _ => .eor
  | .lsrAcc => .lsr
  | .alrImm _ => .alr
  | .jmpAbs _ => .jmp
  | .eorAbs _ => .eor
  | .lsrAbs _ => .lsr
  | .sreAbs _ => .sre
  | .bvc _ => .bvc
  | .eorIzy _ => .eor
  | .jam52 => .jam
  | .sreIzy _ => .sre
  | .nopZpx54 _ => .nop
  | .eorZpx _ => .eor
  | .lsrZpx _ => .lsr
  | .sreZpx _ => .sre
  | .cli => .cli
  | .eorAby _ => .eor
  | .nop5A => .nop
  | .sreAby _ => .sre
  | .nopAbx5C _ => .nop
  | .eorAbx _ => .eor
  | .lsrAbx _ => .lsr
  | .sreAbx _ => .sre
  | .rts => .rts
  | .adcIzx _ => .adc
  | .jam62 => .jam
  | .rraIzx _ => .rra
  | .nopZp64 _ => .nop
  | .adcZp _ => .adc
  | .rorZp _ => .ror
  | .rraZp _ => .rra
  | .pla => .pla
  | .adcImm _ => .adc
  | .rorAcc => .ror
  | .arrImm _ => .arr
  | .jmpInd _ => .jmp
  | .adcAbs _ => .adc
  | .rorAbs _ => .ror
  | .rraAbs _ => .rra
  | .bvs _ => .bvs
  | .adcIzy _ => .adc
  | .jam72 => .jam
  | .rraIzy _ => .rra
  | .nopZpx74 _ => .nop
  | .adcZpx _ => .adc
  | .rorZpx _ => .ror
  | .rraZpx _ => .rra
  | .sei => .sei
  | .adcAby _ => .adc
  | .nop7A => .nop
  | .rraAby _ => .rra
  | .nopAbx7C _ => .nop
  | .adcAbx _ => .adc
  | .rorAbx _ => .ror
  | .rraAbx _ => .rra
  | .nopImm80 _ => .nop
  | .staIzx _ => .sta
  | .nopImm82 _ => .nop
  | .saxIzx _ => .sax
  | .styZp _ => .sty
  | .staZp _ => .sta
  | .stxZp _ => .stx
  | .saxZp _ => .sax
  | .dey => .dey
  | .nopImm89 _ => .nop
  | .txa => .txa
  | .aneImm _ => .ane
  | .styAbs _ => .sty
  | .staAbs _ => .sta
  | .stxAbs _ => .stx
  | .saxAbs _ => .sax
  | .bcc _ => .bcc
  | .staIzy _ => .sta
  | .jam92 => .jam
  | .shaIzy _ => .sha
  | .styZpx _ => .sty
  | .staZpx _ => .sta
  | .stxZpy _ => .stx
  | .saxZpy _ => .sax
  | .tya => .tya
  | .staAby _ => .sta
  | .txs => .txs
  | .tasAby _ => .tas
  | .shyAbx _ => .shy
  | .staAbx _ => .sta
  | .shxAby _ => .shx
  | .shaAby _ => .sha
  | .ldyImm _ => .ldy
  | .ldaIzx _ => .lda
  | .ldxImm _ => .ldx
  | .laxIzx _ => .lax
  | .ldyZp _ => .ldy
  | .ldaZp _ => .lda
  | .ldxZp _ => .ldx
  | .laxZp _ => .lax
  | .tay => .tay
  | .ldaImm _ => .lda
  | .tax => .tax
  | .lxaImm _ => .lxa
  | .ldyAbs _ => .ldy
  | .ldaAbs _ => .lda
  | .ldxAbs _ => .ldx
  | .laxAbs _ => .lax
  | .bcs _ => .bcs
  | .ldaIzy _ => .lda
  | .jamB2 => .jam
  | .laxIzy _ => .lax
  | .ldyZpx _ => .ldy
  | .ldaZpx _ => .lda
  | .ldxZpy _ => .ldx
  | .laxZpy _ => .lax
  | .clv => .clv
  | .ldaAby _ => .lda
  | .tsx => .tsx
  | .lasAby _ => .las
  | .ldyAbx _ => .ldy
  | .ldaAbx _ => .lda
  | .ldxAby _ => .ldx
  | .laxAby _ => .lax
  | .cpyImm _ => .cpy
  | .cmpIzx _ => .cmp
  | .nopImmC2 _ => .nop
  | .dcpIzx _ => .dcp
  | .cpyZp _ => .cpy
  | .cmpZp _ => .cmp
  | .decZp _ => .dec
  | .dcpZp _ => .dcp
  | .iny => .iny
  | .cmpImm _ => .cmp
  | .dex => .dex
  | .sbxImm _ => .sbx
  | .cpyAbs _ => .cpy
  | .cmpAbs _ => .cmp
  | .decAbs _ => .dec
  | .dcpAbs _ => .dcp
  | .bne _ => .bne
  | .cmpIzy _ => .cmp
  | .jamD2 => .jam
  | .dcpIzy _ => .dcp
  | .nopZpxD4 _ => .nop
  | .cmpZpx _ => .cmp
  | .decZpx _ => .dec
  | .dcpZpx _ => .dcp
  | .cld => .cld
  | .cmpAby _ => .cmp
  | .nopDA => .nop
  | .dcpAby _ => .dcp
  | .nopAbxDC _ => .nop
  | .cmpAbx _ => .cmp
  | .decAbx _ => .dec
  | .dcpAbx _ => .dcp
  | .cpxImm _ => .cpx
  | .sbcIzx _ => .sbc
  | .nopImmE2 _ => .nop
  | .iscIzx _ => .isc
  | .cpxZp _ => .cpx
  | .sbcZp _ => .sbc
  | .incZp _ => .inc
  | .iscZp _ => .isc
  | .inx => .inx
  | .sbcImm _ => .sbc
  | .nop => .nop
  | .sbcImmEB _ => .sbc
  | .cpxAbs _ => .cpx
  | .sbcAbs _ => .sbc
  | .incAbs _ => .inc
  | .iscAbs _ => .isc
  | .beq _ => .beq
  | .sbcIzy _ => .sbc
  | .jamF2 => .jam
  | .iscIzy _ => .isc
  | .nopZpxF4 _ => .nop
  | .sbcZpx _ => .sbc
  | .incZpx _ => .inc
  | .iscZpx _ => .isc
  | .sed => .sed
  | .sbcAby _ => .sbc
  | .nopFA => .nop
  | .iscAby _ => .isc
  | .nopAbxFC _ => .nop
  | .sbcAbx _ => .sbc
  | .incAbx _ => .inc
  | .iscAbx _ => .isc

/-- The operand form of the instruction's row (R301, R325). -/
def Instr.form : Instr → Form
  | .brk sig => .signature sig
  | .oraIzx n => .operand (.mem (.izx n))
  | .jam02 => .implied
  | .sloIzx n => .operand (.mem (.izx n))
  | .nopZp04 n => .operand (.mem (.zp n))
  | .oraZp n => .operand (.mem (.zp n))
  | .aslZp n => .operand (.mem (.zp n))
  | .sloZp n => .operand (.mem (.zp n))
  | .php => .implied
  | .oraImm n => .operand (.imm n)
  | .aslAcc => .accumulator
  | .ancImm0B n => .operand (.imm n)
  | .nopAbs a => .operand (.mem (.abs a))
  | .oraAbs a => .operand (.mem (.abs a))
  | .aslAbs a => .operand (.mem (.abs a))
  | .sloAbs a => .operand (.mem (.abs a))
  | .bpl d => .relative d
  | .oraIzy n => .operand (.mem (.izy n))
  | .jam12 => .implied
  | .sloIzy n => .operand (.mem (.izy n))
  | .nopZpx14 n => .operand (.mem (.zpx n))
  | .oraZpx n => .operand (.mem (.zpx n))
  | .aslZpx n => .operand (.mem (.zpx n))
  | .sloZpx n => .operand (.mem (.zpx n))
  | .clc => .implied
  | .oraAby a => .operand (.mem (.aby a))
  | .nop1A => .implied
  | .sloAby a => .operand (.mem (.aby a))
  | .nopAbx1C a => .operand (.mem (.abx a))
  | .oraAbx a => .operand (.mem (.abx a))
  | .aslAbx a => .operand (.mem (.abx a))
  | .sloAbx a => .operand (.mem (.abx a))
  | .jsr a => .operand (.mem (.abs a))
  | .andIzx n => .operand (.mem (.izx n))
  | .jam22 => .implied
  | .rlaIzx n => .operand (.mem (.izx n))
  | .bitZp n => .operand (.mem (.zp n))
  | .andZp n => .operand (.mem (.zp n))
  | .rolZp n => .operand (.mem (.zp n))
  | .rlaZp n => .operand (.mem (.zp n))
  | .plp => .implied
  | .andImm n => .operand (.imm n)
  | .rolAcc => .accumulator
  | .ancImm2B n => .operand (.imm n)
  | .bitAbs a => .operand (.mem (.abs a))
  | .andAbs a => .operand (.mem (.abs a))
  | .rolAbs a => .operand (.mem (.abs a))
  | .rlaAbs a => .operand (.mem (.abs a))
  | .bmi d => .relative d
  | .andIzy n => .operand (.mem (.izy n))
  | .jam32 => .implied
  | .rlaIzy n => .operand (.mem (.izy n))
  | .nopZpx34 n => .operand (.mem (.zpx n))
  | .andZpx n => .operand (.mem (.zpx n))
  | .rolZpx n => .operand (.mem (.zpx n))
  | .rlaZpx n => .operand (.mem (.zpx n))
  | .sec => .implied
  | .andAby a => .operand (.mem (.aby a))
  | .nop3A => .implied
  | .rlaAby a => .operand (.mem (.aby a))
  | .nopAbx3C a => .operand (.mem (.abx a))
  | .andAbx a => .operand (.mem (.abx a))
  | .rolAbx a => .operand (.mem (.abx a))
  | .rlaAbx a => .operand (.mem (.abx a))
  | .rti => .implied
  | .eorIzx n => .operand (.mem (.izx n))
  | .jam42 => .implied
  | .sreIzx n => .operand (.mem (.izx n))
  | .nopZp44 n => .operand (.mem (.zp n))
  | .eorZp n => .operand (.mem (.zp n))
  | .lsrZp n => .operand (.mem (.zp n))
  | .sreZp n => .operand (.mem (.zp n))
  | .pha => .implied
  | .eorImm n => .operand (.imm n)
  | .lsrAcc => .accumulator
  | .alrImm n => .operand (.imm n)
  | .jmpAbs a => .operand (.mem (.abs a))
  | .eorAbs a => .operand (.mem (.abs a))
  | .lsrAbs a => .operand (.mem (.abs a))
  | .sreAbs a => .operand (.mem (.abs a))
  | .bvc d => .relative d
  | .eorIzy n => .operand (.mem (.izy n))
  | .jam52 => .implied
  | .sreIzy n => .operand (.mem (.izy n))
  | .nopZpx54 n => .operand (.mem (.zpx n))
  | .eorZpx n => .operand (.mem (.zpx n))
  | .lsrZpx n => .operand (.mem (.zpx n))
  | .sreZpx n => .operand (.mem (.zpx n))
  | .cli => .implied
  | .eorAby a => .operand (.mem (.aby a))
  | .nop5A => .implied
  | .sreAby a => .operand (.mem (.aby a))
  | .nopAbx5C a => .operand (.mem (.abx a))
  | .eorAbx a => .operand (.mem (.abx a))
  | .lsrAbx a => .operand (.mem (.abx a))
  | .sreAbx a => .operand (.mem (.abx a))
  | .rts => .implied
  | .adcIzx n => .operand (.mem (.izx n))
  | .jam62 => .implied
  | .rraIzx n => .operand (.mem (.izx n))
  | .nopZp64 n => .operand (.mem (.zp n))
  | .adcZp n => .operand (.mem (.zp n))
  | .rorZp n => .operand (.mem (.zp n))
  | .rraZp n => .operand (.mem (.zp n))
  | .pla => .implied
  | .adcImm n => .operand (.imm n)
  | .rorAcc => .accumulator
  | .arrImm n => .operand (.imm n)
  | .jmpInd a => .indirect a
  | .adcAbs a => .operand (.mem (.abs a))
  | .rorAbs a => .operand (.mem (.abs a))
  | .rraAbs a => .operand (.mem (.abs a))
  | .bvs d => .relative d
  | .adcIzy n => .operand (.mem (.izy n))
  | .jam72 => .implied
  | .rraIzy n => .operand (.mem (.izy n))
  | .nopZpx74 n => .operand (.mem (.zpx n))
  | .adcZpx n => .operand (.mem (.zpx n))
  | .rorZpx n => .operand (.mem (.zpx n))
  | .rraZpx n => .operand (.mem (.zpx n))
  | .sei => .implied
  | .adcAby a => .operand (.mem (.aby a))
  | .nop7A => .implied
  | .rraAby a => .operand (.mem (.aby a))
  | .nopAbx7C a => .operand (.mem (.abx a))
  | .adcAbx a => .operand (.mem (.abx a))
  | .rorAbx a => .operand (.mem (.abx a))
  | .rraAbx a => .operand (.mem (.abx a))
  | .nopImm80 n => .operand (.imm n)
  | .staIzx n => .operand (.mem (.izx n))
  | .nopImm82 n => .operand (.imm n)
  | .saxIzx n => .operand (.mem (.izx n))
  | .styZp n => .operand (.mem (.zp n))
  | .staZp n => .operand (.mem (.zp n))
  | .stxZp n => .operand (.mem (.zp n))
  | .saxZp n => .operand (.mem (.zp n))
  | .dey => .implied
  | .nopImm89 n => .operand (.imm n)
  | .txa => .implied
  | .aneImm n => .operand (.imm n)
  | .styAbs a => .operand (.mem (.abs a))
  | .staAbs a => .operand (.mem (.abs a))
  | .stxAbs a => .operand (.mem (.abs a))
  | .saxAbs a => .operand (.mem (.abs a))
  | .bcc d => .relative d
  | .staIzy n => .operand (.mem (.izy n))
  | .jam92 => .implied
  | .shaIzy n => .operand (.mem (.izy n))
  | .styZpx n => .operand (.mem (.zpx n))
  | .staZpx n => .operand (.mem (.zpx n))
  | .stxZpy n => .operand (.mem (.zpy n))
  | .saxZpy n => .operand (.mem (.zpy n))
  | .tya => .implied
  | .staAby a => .operand (.mem (.aby a))
  | .txs => .implied
  | .tasAby a => .operand (.mem (.aby a))
  | .shyAbx a => .operand (.mem (.abx a))
  | .staAbx a => .operand (.mem (.abx a))
  | .shxAby a => .operand (.mem (.aby a))
  | .shaAby a => .operand (.mem (.aby a))
  | .ldyImm n => .operand (.imm n)
  | .ldaIzx n => .operand (.mem (.izx n))
  | .ldxImm n => .operand (.imm n)
  | .laxIzx n => .operand (.mem (.izx n))
  | .ldyZp n => .operand (.mem (.zp n))
  | .ldaZp n => .operand (.mem (.zp n))
  | .ldxZp n => .operand (.mem (.zp n))
  | .laxZp n => .operand (.mem (.zp n))
  | .tay => .implied
  | .ldaImm n => .operand (.imm n)
  | .tax => .implied
  | .lxaImm n => .operand (.imm n)
  | .ldyAbs a => .operand (.mem (.abs a))
  | .ldaAbs a => .operand (.mem (.abs a))
  | .ldxAbs a => .operand (.mem (.abs a))
  | .laxAbs a => .operand (.mem (.abs a))
  | .bcs d => .relative d
  | .ldaIzy n => .operand (.mem (.izy n))
  | .jamB2 => .implied
  | .laxIzy n => .operand (.mem (.izy n))
  | .ldyZpx n => .operand (.mem (.zpx n))
  | .ldaZpx n => .operand (.mem (.zpx n))
  | .ldxZpy n => .operand (.mem (.zpy n))
  | .laxZpy n => .operand (.mem (.zpy n))
  | .clv => .implied
  | .ldaAby a => .operand (.mem (.aby a))
  | .tsx => .implied
  | .lasAby a => .operand (.mem (.aby a))
  | .ldyAbx a => .operand (.mem (.abx a))
  | .ldaAbx a => .operand (.mem (.abx a))
  | .ldxAby a => .operand (.mem (.aby a))
  | .laxAby a => .operand (.mem (.aby a))
  | .cpyImm n => .operand (.imm n)
  | .cmpIzx n => .operand (.mem (.izx n))
  | .nopImmC2 n => .operand (.imm n)
  | .dcpIzx n => .operand (.mem (.izx n))
  | .cpyZp n => .operand (.mem (.zp n))
  | .cmpZp n => .operand (.mem (.zp n))
  | .decZp n => .operand (.mem (.zp n))
  | .dcpZp n => .operand (.mem (.zp n))
  | .iny => .implied
  | .cmpImm n => .operand (.imm n)
  | .dex => .implied
  | .sbxImm n => .operand (.imm n)
  | .cpyAbs a => .operand (.mem (.abs a))
  | .cmpAbs a => .operand (.mem (.abs a))
  | .decAbs a => .operand (.mem (.abs a))
  | .dcpAbs a => .operand (.mem (.abs a))
  | .bne d => .relative d
  | .cmpIzy n => .operand (.mem (.izy n))
  | .jamD2 => .implied
  | .dcpIzy n => .operand (.mem (.izy n))
  | .nopZpxD4 n => .operand (.mem (.zpx n))
  | .cmpZpx n => .operand (.mem (.zpx n))
  | .decZpx n => .operand (.mem (.zpx n))
  | .dcpZpx n => .operand (.mem (.zpx n))
  | .cld => .implied
  | .cmpAby a => .operand (.mem (.aby a))
  | .nopDA => .implied
  | .dcpAby a => .operand (.mem (.aby a))
  | .nopAbxDC a => .operand (.mem (.abx a))
  | .cmpAbx a => .operand (.mem (.abx a))
  | .decAbx a => .operand (.mem (.abx a))
  | .dcpAbx a => .operand (.mem (.abx a))
  | .cpxImm n => .operand (.imm n)
  | .sbcIzx n => .operand (.mem (.izx n))
  | .nopImmE2 n => .operand (.imm n)
  | .iscIzx n => .operand (.mem (.izx n))
  | .cpxZp n => .operand (.mem (.zp n))
  | .sbcZp n => .operand (.mem (.zp n))
  | .incZp n => .operand (.mem (.zp n))
  | .iscZp n => .operand (.mem (.zp n))
  | .inx => .implied
  | .sbcImm n => .operand (.imm n)
  | .nop => .implied
  | .sbcImmEB n => .operand (.imm n)
  | .cpxAbs a => .operand (.mem (.abs a))
  | .sbcAbs a => .operand (.mem (.abs a))
  | .incAbs a => .operand (.mem (.abs a))
  | .iscAbs a => .operand (.mem (.abs a))
  | .beq d => .relative d
  | .sbcIzy n => .operand (.mem (.izy n))
  | .jamF2 => .implied
  | .iscIzy n => .operand (.mem (.izy n))
  | .nopZpxF4 n => .operand (.mem (.zpx n))
  | .sbcZpx n => .operand (.mem (.zpx n))
  | .incZpx n => .operand (.mem (.zpx n))
  | .iscZpx n => .operand (.mem (.zpx n))
  | .sed => .implied
  | .sbcAby a => .operand (.mem (.aby a))
  | .nopFA => .implied
  | .iscAby a => .operand (.mem (.aby a))
  | .nopAbxFC a => .operand (.mem (.abx a))
  | .sbcAbx a => .operand (.mem (.abx a))
  | .incAbx a => .operand (.mem (.abx a))
  | .iscAbx a => .operand (.mem (.abx a))

/-- The opcode byte of the instruction's row (R325). -/
def Instr.opcode : Instr → Byte
  | .brk _ => 0x00
  | .oraIzx _ => 0x01
  | .jam02 => 0x02
  | .sloIzx _ => 0x03
  | .nopZp04 _ => 0x04
  | .oraZp _ => 0x05
  | .aslZp _ => 0x06
  | .sloZp _ => 0x07
  | .php => 0x08
  | .oraImm _ => 0x09
  | .aslAcc => 0x0A
  | .ancImm0B _ => 0x0B
  | .nopAbs _ => 0x0C
  | .oraAbs _ => 0x0D
  | .aslAbs _ => 0x0E
  | .sloAbs _ => 0x0F
  | .bpl _ => 0x10
  | .oraIzy _ => 0x11
  | .jam12 => 0x12
  | .sloIzy _ => 0x13
  | .nopZpx14 _ => 0x14
  | .oraZpx _ => 0x15
  | .aslZpx _ => 0x16
  | .sloZpx _ => 0x17
  | .clc => 0x18
  | .oraAby _ => 0x19
  | .nop1A => 0x1A
  | .sloAby _ => 0x1B
  | .nopAbx1C _ => 0x1C
  | .oraAbx _ => 0x1D
  | .aslAbx _ => 0x1E
  | .sloAbx _ => 0x1F
  | .jsr _ => 0x20
  | .andIzx _ => 0x21
  | .jam22 => 0x22
  | .rlaIzx _ => 0x23
  | .bitZp _ => 0x24
  | .andZp _ => 0x25
  | .rolZp _ => 0x26
  | .rlaZp _ => 0x27
  | .plp => 0x28
  | .andImm _ => 0x29
  | .rolAcc => 0x2A
  | .ancImm2B _ => 0x2B
  | .bitAbs _ => 0x2C
  | .andAbs _ => 0x2D
  | .rolAbs _ => 0x2E
  | .rlaAbs _ => 0x2F
  | .bmi _ => 0x30
  | .andIzy _ => 0x31
  | .jam32 => 0x32
  | .rlaIzy _ => 0x33
  | .nopZpx34 _ => 0x34
  | .andZpx _ => 0x35
  | .rolZpx _ => 0x36
  | .rlaZpx _ => 0x37
  | .sec => 0x38
  | .andAby _ => 0x39
  | .nop3A => 0x3A
  | .rlaAby _ => 0x3B
  | .nopAbx3C _ => 0x3C
  | .andAbx _ => 0x3D
  | .rolAbx _ => 0x3E
  | .rlaAbx _ => 0x3F
  | .rti => 0x40
  | .eorIzx _ => 0x41
  | .jam42 => 0x42
  | .sreIzx _ => 0x43
  | .nopZp44 _ => 0x44
  | .eorZp _ => 0x45
  | .lsrZp _ => 0x46
  | .sreZp _ => 0x47
  | .pha => 0x48
  | .eorImm _ => 0x49
  | .lsrAcc => 0x4A
  | .alrImm _ => 0x4B
  | .jmpAbs _ => 0x4C
  | .eorAbs _ => 0x4D
  | .lsrAbs _ => 0x4E
  | .sreAbs _ => 0x4F
  | .bvc _ => 0x50
  | .eorIzy _ => 0x51
  | .jam52 => 0x52
  | .sreIzy _ => 0x53
  | .nopZpx54 _ => 0x54
  | .eorZpx _ => 0x55
  | .lsrZpx _ => 0x56
  | .sreZpx _ => 0x57
  | .cli => 0x58
  | .eorAby _ => 0x59
  | .nop5A => 0x5A
  | .sreAby _ => 0x5B
  | .nopAbx5C _ => 0x5C
  | .eorAbx _ => 0x5D
  | .lsrAbx _ => 0x5E
  | .sreAbx _ => 0x5F
  | .rts => 0x60
  | .adcIzx _ => 0x61
  | .jam62 => 0x62
  | .rraIzx _ => 0x63
  | .nopZp64 _ => 0x64
  | .adcZp _ => 0x65
  | .rorZp _ => 0x66
  | .rraZp _ => 0x67
  | .pla => 0x68
  | .adcImm _ => 0x69
  | .rorAcc => 0x6A
  | .arrImm _ => 0x6B
  | .jmpInd _ => 0x6C
  | .adcAbs _ => 0x6D
  | .rorAbs _ => 0x6E
  | .rraAbs _ => 0x6F
  | .bvs _ => 0x70
  | .adcIzy _ => 0x71
  | .jam72 => 0x72
  | .rraIzy _ => 0x73
  | .nopZpx74 _ => 0x74
  | .adcZpx _ => 0x75
  | .rorZpx _ => 0x76
  | .rraZpx _ => 0x77
  | .sei => 0x78
  | .adcAby _ => 0x79
  | .nop7A => 0x7A
  | .rraAby _ => 0x7B
  | .nopAbx7C _ => 0x7C
  | .adcAbx _ => 0x7D
  | .rorAbx _ => 0x7E
  | .rraAbx _ => 0x7F
  | .nopImm80 _ => 0x80
  | .staIzx _ => 0x81
  | .nopImm82 _ => 0x82
  | .saxIzx _ => 0x83
  | .styZp _ => 0x84
  | .staZp _ => 0x85
  | .stxZp _ => 0x86
  | .saxZp _ => 0x87
  | .dey => 0x88
  | .nopImm89 _ => 0x89
  | .txa => 0x8A
  | .aneImm _ => 0x8B
  | .styAbs _ => 0x8C
  | .staAbs _ => 0x8D
  | .stxAbs _ => 0x8E
  | .saxAbs _ => 0x8F
  | .bcc _ => 0x90
  | .staIzy _ => 0x91
  | .jam92 => 0x92
  | .shaIzy _ => 0x93
  | .styZpx _ => 0x94
  | .staZpx _ => 0x95
  | .stxZpy _ => 0x96
  | .saxZpy _ => 0x97
  | .tya => 0x98
  | .staAby _ => 0x99
  | .txs => 0x9A
  | .tasAby _ => 0x9B
  | .shyAbx _ => 0x9C
  | .staAbx _ => 0x9D
  | .shxAby _ => 0x9E
  | .shaAby _ => 0x9F
  | .ldyImm _ => 0xA0
  | .ldaIzx _ => 0xA1
  | .ldxImm _ => 0xA2
  | .laxIzx _ => 0xA3
  | .ldyZp _ => 0xA4
  | .ldaZp _ => 0xA5
  | .ldxZp _ => 0xA6
  | .laxZp _ => 0xA7
  | .tay => 0xA8
  | .ldaImm _ => 0xA9
  | .tax => 0xAA
  | .lxaImm _ => 0xAB
  | .ldyAbs _ => 0xAC
  | .ldaAbs _ => 0xAD
  | .ldxAbs _ => 0xAE
  | .laxAbs _ => 0xAF
  | .bcs _ => 0xB0
  | .ldaIzy _ => 0xB1
  | .jamB2 => 0xB2
  | .laxIzy _ => 0xB3
  | .ldyZpx _ => 0xB4
  | .ldaZpx _ => 0xB5
  | .ldxZpy _ => 0xB6
  | .laxZpy _ => 0xB7
  | .clv => 0xB8
  | .ldaAby _ => 0xB9
  | .tsx => 0xBA
  | .lasAby _ => 0xBB
  | .ldyAbx _ => 0xBC
  | .ldaAbx _ => 0xBD
  | .ldxAby _ => 0xBE
  | .laxAby _ => 0xBF
  | .cpyImm _ => 0xC0
  | .cmpIzx _ => 0xC1
  | .nopImmC2 _ => 0xC2
  | .dcpIzx _ => 0xC3
  | .cpyZp _ => 0xC4
  | .cmpZp _ => 0xC5
  | .decZp _ => 0xC6
  | .dcpZp _ => 0xC7
  | .iny => 0xC8
  | .cmpImm _ => 0xC9
  | .dex => 0xCA
  | .sbxImm _ => 0xCB
  | .cpyAbs _ => 0xCC
  | .cmpAbs _ => 0xCD
  | .decAbs _ => 0xCE
  | .dcpAbs _ => 0xCF
  | .bne _ => 0xD0
  | .cmpIzy _ => 0xD1
  | .jamD2 => 0xD2
  | .dcpIzy _ => 0xD3
  | .nopZpxD4 _ => 0xD4
  | .cmpZpx _ => 0xD5
  | .decZpx _ => 0xD6
  | .dcpZpx _ => 0xD7
  | .cld => 0xD8
  | .cmpAby _ => 0xD9
  | .nopDA => 0xDA
  | .dcpAby _ => 0xDB
  | .nopAbxDC _ => 0xDC
  | .cmpAbx _ => 0xDD
  | .decAbx _ => 0xDE
  | .dcpAbx _ => 0xDF
  | .cpxImm _ => 0xE0
  | .sbcIzx _ => 0xE1
  | .nopImmE2 _ => 0xE2
  | .iscIzx _ => 0xE3
  | .cpxZp _ => 0xE4
  | .sbcZp _ => 0xE5
  | .incZp _ => 0xE6
  | .iscZp _ => 0xE7
  | .inx => 0xE8
  | .sbcImm _ => 0xE9
  | .nop => 0xEA
  | .sbcImmEB _ => 0xEB
  | .cpxAbs _ => 0xEC
  | .sbcAbs _ => 0xED
  | .incAbs _ => 0xEE
  | .iscAbs _ => 0xEF
  | .beq _ => 0xF0
  | .sbcIzy _ => 0xF1
  | .jamF2 => 0xF2
  | .iscIzy _ => 0xF3
  | .nopZpxF4 _ => 0xF4
  | .sbcZpx _ => 0xF5
  | .incZpx _ => 0xF6
  | .iscZpx _ => 0xF7
  | .sed => 0xF8
  | .sbcAby _ => 0xF9
  | .nopFA => 0xFA
  | .iscAby _ => 0xFB
  | .nopAbxFC _ => 0xFC
  | .sbcAbx _ => 0xFD
  | .incAbx _ => 0xFE
  | .iscAbx _ => 0xFF

/-- The operand bytes of a form, in address order (R301, R210). -/
def Form.bytes : Form → List Byte
  | .implied => []
  | .accumulator => []
  | .signature n => [n]
  | .operand (.imm n) => [n]
  | .operand (.mem (.zp n)) => [n]
  | .operand (.mem (.zpx n)) => [n]
  | .operand (.mem (.zpy n)) => [n]
  | .operand (.mem (.abs a)) => [a.setWidth 8, (a >>> 8).setWidth 8]
  | .operand (.mem (.abx a)) => [a.setWidth 8, (a >>> 8).setWidth 8]
  | .operand (.mem (.aby a)) => [a.setWidth 8, (a >>> 8).setWidth 8]
  | .operand (.mem (.izx n)) => [n]
  | .operand (.mem (.izy n)) => [n]
  | .relative d => [BitVec.ofInt 8 d]
  | .indirect a => [a.setWidth 8, (a >>> 8).setWidth 8]

/-- The number of operand bytes R301's table gives the mode. -/
def Form.operandLength : Form → Nat
  | .implied => 0
  | .accumulator => 0
  | .signature _ => 1
  | .operand (.imm _) => 1
  | .operand (.mem (.zp _)) => 1
  | .operand (.mem (.zpx _)) => 1
  | .operand (.mem (.zpy _)) => 1
  | .operand (.mem (.abs _)) => 2
  | .operand (.mem (.abx _)) => 2
  | .operand (.mem (.aby _)) => 2
  | .operand (.mem (.izx _)) => 1
  | .operand (.mem (.izy _)) => 1
  | .relative _ => 1
  | .indirect _ => 2

/-- The bytes of an instruction, the opcode first (R300). -/
def encode (i : Instr) : List Byte := i.opcode :: i.form.bytes

/-- The cycle count in each cell of R325's map, line by line; 0 for JAM, which returns no count (R333). -/
def cycleRows : List (List Nat) := [
  [7, 6, 0, 8, 3, 3, 5, 5, 3, 2, 2, 2, 4, 4, 6, 6],
  [2, 5, 0, 8, 4, 4, 6, 6, 2, 4, 2, 7, 4, 4, 7, 7],
  [6, 6, 0, 8, 3, 3, 5, 5, 4, 2, 2, 2, 4, 4, 6, 6],
  [2, 5, 0, 8, 4, 4, 6, 6, 2, 4, 2, 7, 4, 4, 7, 7],
  [6, 6, 0, 8, 3, 3, 5, 5, 3, 2, 2, 2, 3, 4, 6, 6],
  [2, 5, 0, 8, 4, 4, 6, 6, 2, 4, 2, 7, 4, 4, 7, 7],
  [6, 6, 0, 8, 3, 3, 5, 5, 4, 2, 2, 2, 5, 4, 6, 6],
  [2, 5, 0, 8, 4, 4, 6, 6, 2, 4, 2, 7, 4, 4, 7, 7],
  [2, 6, 2, 6, 3, 3, 3, 3, 2, 2, 2, 2, 4, 4, 4, 4],
  [2, 6, 0, 6, 4, 4, 4, 4, 2, 5, 2, 5, 5, 5, 5, 5],
  [2, 6, 2, 6, 3, 3, 3, 3, 2, 2, 2, 2, 4, 4, 4, 4],
  [2, 5, 0, 5, 4, 4, 4, 4, 2, 4, 2, 4, 4, 4, 4, 4],
  [2, 6, 2, 8, 3, 3, 5, 5, 2, 2, 2, 2, 4, 4, 6, 6],
  [2, 5, 0, 8, 4, 4, 6, 6, 2, 4, 2, 7, 4, 4, 7, 7],
  [2, 6, 2, 8, 3, 3, 5, 5, 2, 2, 2, 2, 4, 4, 6, 6],
  [2, 5, 0, 8, 4, 4, 6, 6, 2, 4, 2, 7, 4, 4, 7, 7]]

/-- The base cycle count of an opcode value (R330). -/
def opcodeCycles (op : Byte) : Nat := ((cycleRows.getD (op.toNat / 16) []).getD (op.toNat % 16) 0)

/-- The base cycle count of an instruction (R330). -/
def Instr.cycles (i : Instr) : Nat := opcodeCycles i.opcode

/-- "Exactly the 12 JAM values" (R341): the opcodes without a handler. -/
def Instr.isJam (i : Instr) : Bool := i.mnemonic == .jam

end Sys2Proof
end

