-- ==== Sys2Proof/Config.lean ====
section
/-! DEFINITION. What an implementation fixes and what the spec leaves free: the open parameters of
00_scope.md R10 and 10_state.md R135, and the open-bus draws of R19.

The open parameters are one record, `Config`, carried by the machine as plain data that no step writes (log
entry 4): a statement about every state is a statement for every value of every parameter.
The open-bus draw is opaque: nothing can be proved of its value (log entry 5). -/

namespace Sys2Proof

/-- `SH_PAGECROSS` (92, D5): what SHA, SHX, SHY and TAS do with the address when indexing crosses a page. -/
inductive ShPageCross where
  | replaceHigh
  | plain
  deriving DecidableEq, Repr

/-- `MMC3_IRQ_ZERO` (92, D36): whether a reload to 0 raises the mapper IRQ. -/
inductive Mmc3IrqZero where
  | onZero
  | onTransition
  deriving DecidableEq, Repr

/-- `SWEEP_LOW_TEST` (92, D42): which period the "below 8" mute tests. -/
inductive SweepLowTest where
  | target
  | current
  deriving DecidableEq, Repr

/-- `SAMPLE_NUMERIC` (92, D45): how the exact mixer value is rendered when it is emitted. -/
inductive SampleNumeric where
  | exact
  | binary32
  | binary64
  deriving DecidableEq, Repr

/-- The open parameters of R10 that the block's own rules read. `INIT_MEM` and the cartridge image are arguments
of `powerOn`; `SYSTEM_PALETTE` is outside the block (D19). -/
structure Config where
  /-- `MAGIC_ANE` (D4). -/
  magicAne : Byte
  /-- `MAGIC_LXA` (D4). -/
  magicLxa : Byte
  /-- `SH_PAGECROSS` (D5). -/
  shPageCross : ShPageCross
  /-- `NMI_ON_CTRL_ENABLE` (D13). -/
  nmiOnCtrlEnable : Bool
  /-- `SPRITE_LIMIT` (D17). -/
  spriteLimit : Nat
  /-- `MMC3_IRQ_ZERO` (D36). -/
  mmc3IrqZero : Mmc3IrqZero
  /-- `SWEEP_LOW_TEST` (D42). -/
  sweepLowTest : SweepLowTest
  /-- `SAMPLE_NUMERIC` (D45). -/
  sampleNumeric : SampleNumeric
  deriving DecidableEq, Repr

/-- The defaults 92_eei_decisions.md lists for the parameters. DESIGN CHOICE (log entry 4, unsafe for a claim that
starts at `State.reset`): the spec lists no default for `SAMPLE_NUMERIC`; the model takes the exact reals. -/
def Config.default : Config where
  magicAne := 0xEE
  magicLxa := 0xEE
  shPageCross := .replaceHigh
  nmiOnCtrlEnable := false
  spriteLimit := 8
  mmc3IrqZero := .onZero
  sweepLowTest := .target
  sampleNumeric := .exact

/-- `draw openBus` (R19, D29): the value of the n-th read of an address nothing drives. FREE VALUE: no body, so that
no proof can see it; applied to a counter of State, so that each read draws afresh (log entry 5, safe). -/
opaque Config.openBus : Nat → Byte

end Sys2Proof
end

