-- ==== Sys2Proof/Machine/State.lean ====
section
/-! DEFINITION. The machine's state as plain data: everything 10_state.md R100-R134 names, then the model's own three
fields (INVENTORY.md, '## State'); the reasons a step can stop; and the state right after reset (R1200, R136). -/

namespace Sys2Proof.Machine

/-- A memory of w-bit cells: (index, value) pairs in ONE canonical form, indices strictly rising and no value 0; a cell
that is not listed reads as 0 (log entry 2). `Cells.wf` in Machine/Memory.lean says the form holds,
and `Memory.wf` says it of bytes. -/
abbrev Cells (w : Nat) := List (Nat × BitVec w)

/-- A memory of bytes: a list of `Host.Cell`. -/
abbrev Memory := Cells 8

/-- Controller-port state (R115). -/
structure Controller where
  /-- The live button mask, written by the host only. -/
  buttons : Byte
  strobe : Bool
  /-- The mask latched at the strobe's falling edge. -/
  shiftReg : Byte
  /-- Bits read since the latch, 0..8. -/
  shiftIndex : Nat
  deriving DecidableEq, Repr

/-- One record of the sprite set of the current line (R126, R850). -/
structure SpriteRec where
  index : Nat
  x : Byte
  attr : Byte
  lo : Byte
  hi : Byte
  deriving DecidableEq, Repr

/-- PPU state (R116-R128). -/
structure Ppu where
  ctrl : Byte
  mask : Byte
  vbl : Bool
  s0 : Bool
  ovf : Bool
  oamAddr : Byte
  v : BitVec 15
  t : BitVec 15
  x : BitVec 3
  w : Bool
  readBuffer : Byte
  latch : Byte
  scanline : Nat
  dot : Nat
  frame : Nat
  nmiRequest : Bool
  frameComplete : Bool
  oam : Memory
  sprLine : List SpriteRec
  nt : Memory
  pal : Memory
  /-- Cell (x, y) is at index 256·y + x. -/
  fb : Cells 6
  deriving DecidableEq, Repr

/-- The envelope of a pulse or noise channel, with the two settings bits it shares with the length counter and the
volume output (R129, R131, R944). -/
structure Envelope where
  /-- Length-counter halt = envelope loop. -/
  halt : Bool
  constVol : Bool
  vol : BitVec 4
  start : Bool
  div : BitVec 4
  decay : BitVec 4
  deriving DecidableEq, Repr

/-- A pulse channel (R129). -/
structure Pulse where
  duty : BitVec 2
  env : Envelope
  sweepEn : Bool
  sweepPeriod : BitVec 3
  sweepNeg : Bool
  sweepShift : BitVec 3
  sweepReload : Bool
  sweepDiv : BitVec 3
  period : BitVec 11
  timer : BitVec 11
  seqPos : BitVec 3
  length : Byte
  deriving DecidableEq, Repr

/-- The triangle channel (R130). -/
structure Triangle where
  /-- Length-counter halt = linear-counter control. -/
  control : Bool
  linReload : BitVec 7
  period : BitVec 11
  timer : BitVec 11
  step : BitVec 5
  length : Byte
  linCounter : BitVec 7
  linReloadFlag : Bool
  deriving DecidableEq, Repr

/-- The noise channel (R131). -/
structure Noise where
  env : Envelope
  mode : Bool
  periodIdx : BitVec 4
  timer : BitVec 12
  lfsr : BitVec 15
  length : Byte
  deriving DecidableEq, Repr

/-- APU state (R129-R132). -/
structure Apu where
  pulse1 : Pulse
  pulse2 : Pulse
  tri : Triangle
  noise : Noise
  enP1 : Bool
  enP2 : Bool
  enTri : Bool
  enNoise : Bool
  /-- false = 4-step, true = 5-step. -/
  fsMode : Bool
  irqInhibit : Bool
  frameIrq : Bool
  fsCount : Nat
  cycle : Nat
  /-- The last mixed output: "a real number", which the formula of R954 makes rational. -/
  sample : Rat
  deriving DecidableEq, Repr

/-- Registers of the shift-register mapper (R134, R1020-R1026). -/
structure Mmc1 where
  shift : BitVec 5
  count : Nat
  control : BitVec 5
  chr0 : BitVec 5
  chr1 : BitVec 5
  prgBank : BitVec 5
  deriving DecidableEq, Repr

/-- Registers of the IRQ-counter mapper (R134, R1030-R1038); `r0`..`r7` are the spec's `r[0..7]`. -/
structure Mmc3 where
  bankSelect : Byte
  r0 : Byte
  r1 : Byte
  r2 : Byte
  r3 : Byte
  r4 : Byte
  r5 : Byte
  r6 : Byte
  r7 : Byte
  mirror : Bool
  irqLatch : Byte
  irqCounter : Byte
  irqReload : Bool
  irqEnable : Bool
  irqPending : Bool
  deriving DecidableEq, Repr

/-- Registers of the outer-bank-select mapper (R134, R1040). -/
structure Gxrom where
  prgBank : BitVec 2
  chrBank : BitVec 2
  deriving DecidableEq, Repr

/-- The mapper, "a tagged variant over {NROM, MMC1, MMC3, GxROM}" (R1005). -/
inductive Mapper where
  | nrom
  | mmc1 (m : Mmc1)
  | mmc3 (m : Mmc3)
  | gxrom (m : Gxrom)
  deriving DecidableEq, Repr

/-- Cartridge state (R133, R134). `chrIsRam` is `chrBanks = 0` and `mapperNo` the tag of `mapper` (log entry 3). -/
structure Cartridge where
  prgBanks : Nat
  prg : Memory
  chrBanks : Nat
  chr : Memory
  /-- false = horizontal, true = vertical. -/
  hdrMirror : Bool
  prgRam : Memory
  mapper : Mapper
  deriving DecidableEq, Repr

/-- The fatal-fault record `Fatal(opcode, pc)` (R107, R700). -/
structure FaultRecord where
  opcode : Byte
  pc : Word
  deriving DecidableEq, Repr

/-- The state of the block (10_state.md), and the model's own `cfg`, `draws` and `samples`. -/
structure State where
  a : Byte
  x : Byte
  y : Byte
  sp : Byte
  p : Byte
  pc : Word
  cycles : Nat
  fault : Option FaultRecord
  ram : Memory
  ctl : Controller
  ppu : Ppu
  apu : Apu
  cart : Cartridge
  /-- The model's own: the open parameters of R10/R135, which no step writes (log entry 4). -/
  cfg : Config
  /-- The model's own: how many open-bus draws have been made (R19, log entry 5). -/
  draws : Nat
  /-- The model's own: the samples emitted and not yet taken by the sink, newest first (R1122, log entry 7). -/
  samples : List Rat
  deriving DecidableEq, Repr

/-- Why the machine stops. -/
inductive Fault where
  /-- Raised by `step` of a machine whose fault record is set, and by nothing else: "the faulted machine is terminal"
  (R700, R1100). The record's opcode and address are reported. Safe: the spec gives such a machine no step. -/
  | fatal (opcode : Byte) (pc : Word)
  deriving DecidableEq, Repr

/-- Why an instruction has no meaning. -/
inductive Refusal where
  /-- Raised by an arm of `exec` whose instruction has no meaning yet; no arm raises it now. Safe: the machine stops
  where the hardware goes on. -/
  | notModelled (mnemonic : String)
  deriving DecidableEq, Repr

/-- The outcome of an instruction or of a step. -/
abbrev StepResult := Host.Outcome State Fault Refusal

/-- An envelope after reset (R129, R131, R136). -/
def Envelope.reset : Envelope where
  halt := false
  constVol := false
  vol := 0
  start := false
  div := 0
  decay := 0

/-- A pulse channel after reset (R129, R136). -/
def Pulse.reset : Pulse where
  duty := 0
  env := Envelope.reset
  sweepEn := false
  sweepPeriod := 0
  sweepNeg := false
  sweepShift := 0
  sweepReload := false
  sweepDiv := 0
  period := 0
  timer := 0
  seqPos := 0
  length := 0

/-- The triangle channel after reset (R130, R136). -/
def Triangle.reset : Triangle where
  control := false
  linReload := 0
  period := 0
  timer := 0
  step := 0
  length := 0
  linCounter := 0
  linReloadFlag := false

/-- The noise channel after reset: 0 "for every field except lfsr = 1" (R131, R136). -/
def Noise.reset : Noise where
  env := Envelope.reset
  mode := false
  periodIdx := 0
  timer := 0
  lfsr := 1
  length := 0

/-- The APU after reset (R132, R136). -/
def Apu.reset : Apu where
  pulse1 := Pulse.reset
  pulse2 := Pulse.reset
  tri := Triangle.reset
  noise := Noise.reset
  enP1 := false
  enP2 := false
  enTri := false
  enNoise := false
  fsMode := false
  irqInhibit := false
  frameIrq := false
  fsCount := 0
  cycle := 0
  sample := 0

/-- Every PPU register after reset (R136), with the memories reset does not change (R1202) as they were. -/
def Ppu.resetWith (oam nt pal : Memory) (fb : Cells 6) : Ppu where
  ctrl := 0
  mask := 0
  vbl := false
  s0 := false
  ovf := false
  oamAddr := 0
  v := 0
  t := 0
  x := 0
  w := false
  readBuffer := 0
  latch := 0
  scanline := 0
  dot := 0
  frame := 0
  nmiRequest := false
  frameComplete := false
  oam := oam
  sprLine := []
  nt := nt
  pal := pal
  fb := fb

/-- The cartridge of `State.reset`: NROM, one 16 KiB bank of PRG-ROM and 8 KiB of CHR-RAM with nothing listed. The
image is a launch input (R10); a blank one stands for it here, which is a DESIGN CHOICE (log entry 1, unsafe). -/
def Cartridge.blank : Cartridge where
  prgBanks := 1
  prg := []
  chrBanks := 0
  chr := []
  hdrMirror := false
  prgRam := []
  mapper := .nrom

/-- The machine right after reset (R1200, R136), with the blank cartridge, memories with nothing listed and the
parameters' defaults (log entries 1, 2, 4). The reset vector of the blank cartridge reads 0x0000. -/
def State.reset : State where
  a := 0
  x := 0
  y := 0
  sp := 0xFD
  p := 0x24
  pc := 0
  cycles := 0
  fault := none
  ram := []
  ctl := { buttons := 0, strobe := false, shiftReg := 0, shiftIndex := 0 }
  ppu := Ppu.resetWith [] [] [] []
  apu := Apu.reset
  cart := Cartridge.blank
  cfg := Config.default
  draws := 0
  samples := []

end Sys2Proof.Machine
end

