-- ==== Sys2Proof/Machine/Memory.lean ====
section
/-! DEFINITION. Reading and writing a memory in its canonical form, and small bit-field helpers the machine shares. -/

namespace Sys2Proof.Machine

/-- The value of a cell; a cell that is not listed reads as 0. -/
def Cells.read {w : Nat} : Cells w → Nat → BitVec w
  | [], _ => 0
  | (k, v) :: rest, i => if k = i then v else Cells.read rest i

/-- The memory without any entry for cell i. -/
def Cells.erase {w : Nat} : Cells w → Nat → Cells w
  | [], _ => []
  | (k, v) :: rest, i => if k = i then Cells.erase rest i else (k, v) :: Cells.erase rest i

/-- The memory with an entry for cell i before the first greater index. -/
def Cells.insert {w : Nat} : Cells w → Nat → BitVec w → Cells w
  | [], i, x => [(i, x)]
  | (k, v) :: rest, i, x => if i < k then (i, x) :: (k, v) :: rest else (k, v) :: Cells.insert rest i x

/-- Stores x in cell i. Storing 0 removes the entry, so that equal memories are equal lists. -/
def Cells.write {w : Nat} (m : Cells w) (i : Nat) (x : BitVec w) : Cells w :=
  if x = 0 then Cells.erase m i else Cells.insert (Cells.erase m i) i x

/-- Every index is at least `lo`, the indices rise strictly, and no value is 0. -/
def Cells.rising {w : Nat} (lo : Nat) : Cells w → Bool
  | [] => true
  | (k, v) :: rest => decide (lo ≤ k) && decide (v ≠ 0) && Cells.rising (k + 1) rest

/-- The canonical form. -/
def Cells.wf {w : Nat} (m : Cells w) : Bool := Cells.rising 0 m

/-- The canonical form of a memory of bytes. -/
abbrev Memory.wf (m : Memory) : Bool := Cells.wf m

/-- Every listed cell is one of the memory's `n` cells. -/
def Cells.within {w : Nat} (n : Nat) (m : Cells w) : Bool := m.all fun c => decide (c.1 < n)

/-- Canonical, and of `n` cells. -/
def Cells.ok {w : Nat} (n : Nat) (m : Cells w) : Bool := Cells.wf m && Cells.within n m

/-- A bit as a number, 0 or 1. -/
def bit (b : Bool) : Nat := if b then 1 else 0

/-- `byte` with bit i set to b and every other bit as it was. -/
def setBit (byte : Byte) (i : Nat) (b : Bool) : Byte :=
  if b then byte ||| (1#8 <<< i) else byte &&& ~~~(1#8 <<< i)

/-- The high byte of a 16-bit quantity. -/
def highByte (a : Word) : Byte := (a >>> 8).setWidth 8

/-- The low byte of a 16-bit quantity. -/
def lowByte (a : Word) : Byte := a.setWidth 8

end Sys2Proof.Machine
end

