-- ==== Sys2Proof/Machine/Apu.lean ====
section
/-! DEFINITION. The APU: tables, register writes, frame sequencer, channel units, status and mixer
(62_apu.md R900-R955). -/

namespace Sys2Proof.Machine

/-- `LEN` (R900). -/
def lengthTable : List Byte := [
  10, 254, 20, 2, 40, 4, 80, 6, 160, 8, 60, 10, 14, 12, 26, 14,
  12, 16, 24, 18, 48, 20, 96, 22, 192, 24, 72, 26, 16, 28, 32, 30]

/-- `LEN[d >> 3]` (R913, R922, R931). -/
def lengthLoad (d : Byte) : Byte := lengthTable.getD (d.toNat / 8) 0

/-- `DUTY[duty]`, eight steps in output order (R901). -/
def dutyWave (duty : BitVec 2) : List Nat :=
  match duty.toNat with
  | 0 => [0, 1, 0, 0, 0, 0, 0, 0]
  | 1 => [0, 1, 1, 0, 0, 0, 0, 0]
  | 2 => [0, 1, 1, 1, 1, 0, 0, 0]
  | _ => [1, 0, 0, 1, 1, 1, 1, 1]

/-- `TRI_SEQ` (R902). -/
def triSequence : List Nat := [
  15, 14, 13, 12, 11, 10, 9, 8, 7, 6, 5, 4, 3, 2, 1, 0,
  0, 1, 2, 3, 4, 5, 6, 7, 8, 9, 10, 11, 12, 13, 14, 15]

/-- `NOISE_PERIOD` (R903). -/
def noisePeriodTable : List Nat := [
  4, 8, 16, 32, 64, 96, 128, 160, 202, 254, 380, 508, 762, 1016, 2034, 4068]

/-- `NOISE_PERIOD[i] - 1`, the reload value of the noise timer (R950). -/
def noiseReload (i : BitVec 4) : BitVec 12 := BitVec.ofNat 12 (noisePeriodTable.getD i.toNat 0 - 1)

/-- `period <- (period AND 0x700) OR d` (R912, R921). -/
def periodLow (period : BitVec 11) (d : Byte) : BitVec 11 := (period &&& 0x700) ||| d.setWidth 11

/-- `period <- (period AND 0x0FF) OR ((d AND 7) << 8)` (R913, R922). -/
def periodHigh (period : BitVec 11) (d : Byte) : BitVec 11 :=
  (period &&& 0x0FF) ||| ((d &&& 7).setWidth 11 <<< 8)

/-- The settings of register 0 of a pulse or noise channel (R910, R930). -/
def Envelope.settings (e : Envelope) (d : Byte) : Envelope :=
  { e with halt := d.getLsbD 5, constVol := d.getLsbD 4, vol := d.setWidth 4 }

/-- Pulse register 0 (R910). -/
def Pulse.write0 (c : Pulse) (d : Byte) : Pulse :=
  { c with duty := (d >>> 6).setWidth 2, env := c.env.settings d }

/-- Pulse register 1, sweep (R911). -/
def Pulse.write1 (c : Pulse) (d : Byte) : Pulse :=
  { c with
    sweepEn := d.getLsbD 7
    sweepPeriod := (d >>> 4).setWidth 3
    sweepNeg := d.getLsbD 3
    sweepShift := d.setWidth 3
    sweepReload := true }

/-- Pulse register 2 (R912). -/
def Pulse.write2 (c : Pulse) (d : Byte) : Pulse := { c with period := periodLow c.period d }

/-- Pulse register 3 (R913). -/
def Pulse.write3 (c : Pulse) (enabled : Bool) (d : Byte) : Pulse :=
  { c with
    period := periodHigh c.period d
    length := if enabled then lengthLoad d else c.length
    env := { c.env with start := true }
    seqPos := 0 }

/-- Triangle register `$4008` (R920). -/
def Triangle.write0 (c : Triangle) (d : Byte) : Triangle :=
  { c with control := d.getLsbD 7, linReload := d.setWidth 7 }

/-- Triangle register `$400A` (R921). -/
def Triangle.write2 (c : Triangle) (d : Byte) : Triangle := { c with period := periodLow c.period d }

/-- Triangle register `$400B` (R922). -/
def Triangle.write3 (c : Triangle) (enabled : Bool) (d : Byte) : Triangle :=
  { c with
    period := periodHigh c.period d
    length := if enabled then lengthLoad d else c.length
    linReloadFlag := true }

/-- Noise register `$400C` (R930). -/
def Noise.write0 (c : Noise) (d : Byte) : Noise := { c with env := c.env.settings d }

/-- Noise register `$400E` (R931). -/
def Noise.write2 (c : Noise) (d : Byte) : Noise := { c with mode := d.getLsbD 7, periodIdx := d.setWidth 4 }

/-- Noise register `$400F` (R931). -/
def Noise.write3 (c : Noise) (enabled : Bool) (d : Byte) : Noise :=
  { c with
    length := if enabled then lengthLoad d else c.length
    env := { c.env with start := true } }

/-- A write of d to 0x4000-0x4013; 0x4009, 0x400D and 0x4010-0x4013 are ignored (R910-R931, D30). -/
def Apu.write (u : Apu) (a : Nat) (d : Byte) : Apu :=
  match a with
  | 0x4000 => { u with pulse1 := u.pulse1.write0 d }
  | 0x4001 => { u with pulse1 := u.pulse1.write1 d }
  | 0x4002 => { u with pulse1 := u.pulse1.write2 d }
  | 0x4003 => { u with pulse1 := u.pulse1.write3 u.enP1 d }
  | 0x4004 => { u with pulse2 := u.pulse2.write0 d }
  | 0x4005 => { u with pulse2 := u.pulse2.write1 d }
  | 0x4006 => { u with pulse2 := u.pulse2.write2 d }
  | 0x4007 => { u with pulse2 := u.pulse2.write3 u.enP2 d }
  | 0x4008 => { u with tri := u.tri.write0 d }
  | 0x400A => { u with tri := u.tri.write2 d }
  | 0x400B => { u with tri := u.tri.write3 u.enTri d }
  | 0x400C => { u with noise := u.noise.write0 d }
  | 0x400E => { u with noise := u.noise.write2 d }
  | 0x400F => { u with noise := u.noise.write3 u.enNoise d }
  | _ => u

/-- One envelope clock (R944). -/
def Envelope.clock (e : Envelope) : Envelope :=
  if e.start then { e with start := false, decay := 15, div := e.vol }
  else if e.div = 0 then
    { e with
      div := e.vol
      decay := if e.decay ≠ 0 then e.decay - 1 else if e.halt then 15 else e.decay }
  else { e with div := e.div - 1 }

/-- `EnvVol` (R944). -/
def Envelope.volume (e : Envelope) : Nat := if e.constVol then e.vol.toNat else e.decay.toNat

/-- The sweep unit's target period of pulse n, an integer (R945). -/
def Pulse.target (n : Nat) (c : Pulse) : Int :=
  let change : Int := c.period.toNat / 2 ^ c.sweepShift.toNat
  if !c.sweepNeg then c.period.toNat + change
  else if n = 1 then c.period.toNat - change - 1
  else c.period.toNat - change

/-- The sweep unit's mute condition (R945, D42). -/
def Pulse.muted (low : SweepLowTest) (n : Nat) (c : Pulse) : Bool :=
  decide (0x7FF < c.target n) ||
    match low with
    | .target => decide (c.target n < 8)
    | .current => decide (c.period.toNat < 8)

/-- One half-frame clock of the sweep unit of pulse n (R945). -/
def Pulse.sweepClock (low : SweepLowTest) (n : Nat) (c : Pulse) : Pulse :=
  let adjust := c.sweepDiv == 0 && c.sweepEn && c.sweepShift != 0 && !c.muted low n
  let reload := c.sweepDiv == 0 || c.sweepReload
  { c with
    period := if adjust then BitVec.ofInt 11 (c.target n) else c.period
    sweepDiv := if reload then c.sweepPeriod else c.sweepDiv - 1
    sweepReload := if reload then false else c.sweepReload }

/-- One half-frame clock of a length counter (R946). -/
def lengthClock (length : Byte) (halt : Bool) : Byte := if length ≠ 0 ∧ halt = false then length - 1 else length

/-- One quarter-frame clock of the triangle's linear counter (R947). -/
def Triangle.linearClock (c : Triangle) : Triangle :=
  { c with
    linCounter :=
      if c.linReloadFlag then c.linReload else if c.linCounter ≠ 0 then c.linCounter - 1 else c.linCounter
    linReloadFlag := c.linReloadFlag && c.control }

/-- `QuarterClock()` (R942). -/
def Apu.quarterClock (u : Apu) : Apu :=
  { u with
    pulse1 := { u.pulse1 with env := u.pulse1.env.clock }
    pulse2 := { u.pulse2 with env := u.pulse2.env.clock }
    noise := { u.noise with env := u.noise.env.clock }
    tri := u.tri.linearClock }

/-- The length clock of a pulse channel, then its sweep clock (R943). -/
def Pulse.halfClock (low : SweepLowTest) (n : Nat) (c : Pulse) : Pulse :=
  Pulse.sweepClock low n { c with length := lengthClock c.length c.env.halt }

/-- `HalfClock()` (R943). -/
def Apu.halfClock (low : SweepLowTest) (u : Apu) : Apu :=
  { u with
    pulse1 := u.pulse1.halfClock low 1
    pulse2 := u.pulse2.halfClock low 2
    tri := { u.tri with length := lengthClock u.tri.length u.tri.control }
    noise := { u.noise with length := lengthClock u.noise.length u.noise.env.halt } }

/-- The 4-step sequence at the new value n of `fsCount` (R940). -/
def Apu.fourStep (low : SweepLowTest) (n : Nat) (u : Apu) : Apu :=
  if n = 7457 ∨ n = 22371 then u.quarterClock
  else if n = 14913 then u.quarterClock.halfClock low
  else if n = 29829 then
    let u := u.quarterClock.halfClock low
    { u with frameIrq := u.frameIrq || !u.irqInhibit }
  else if n = 29830 then { u with fsCount := 0 }
  else u

/-- The 5-step sequence at the new value n of `fsCount` (R940). -/
def Apu.fiveStep (low : SweepLowTest) (n : Nat) (u : Apu) : Apu :=
  if n = 7457 ∨ n = 22371 then u.quarterClock
  else if n = 14913 ∨ n = 37281 then u.quarterClock.halfClock low
  else if n = 37282 then { u with fsCount := 0 }
  else u

/-- The frame sequencer, step 1 of every tick (R940). -/
def Apu.sequencer (low : SweepLowTest) (u : Apu) : Apu :=
  let n := u.fsCount + 1
  let u := { u with fsCount := n }
  if u.fsMode then u.fiveStep low n else u.fourStep low n

/-- `$4017` write (R941). -/
def Apu.writeFrame (low : SweepLowTest) (u : Apu) (d : Byte) : Apu :=
  let u := { u with
    fsMode := d.getLsbD 7
    irqInhibit := d.getLsbD 6
    frameIrq := u.frameIrq && !d.getLsbD 6
    fsCount := 0 }
  if d.getLsbD 7 then u.quarterClock.halfClock low else u

/-- `$4015` write: the channel enables (R951). -/
def Apu.writeEnable (u : Apu) (d : Byte) : Apu :=
  { u with
    enP1 := d.getLsbD 0
    enP2 := d.getLsbD 1
    enTri := d.getLsbD 2
    enNoise := d.getLsbD 3
    pulse1 := { u.pulse1 with length := if d.getLsbD 0 then u.pulse1.length else 0 }
    pulse2 := { u.pulse2 with length := if d.getLsbD 1 then u.pulse2.length else 0 }
    tri := { u.tri with length := if d.getLsbD 2 then u.tri.length else 0 }
    noise := { u.noise with length := if d.getLsbD 3 then u.noise.length else 0 } }

/-- The value of a `$4015` read (R952, D43). -/
def Apu.statusByte (u : Apu) : Byte :=
  setBit (setBit (setBit (setBit (setBit 0
    0 (u.pulse1.length != 0)) 1 (u.pulse2.length != 0)) 2 (u.tri.length != 0)) 3 (u.noise.length != 0)) 6 u.frameIrq

/-- One clock of a pulse timer (R948). -/
def Pulse.timerClock (c : Pulse) : Pulse :=
  if c.timer = 0 then { c with timer := c.period, seqPos := c.seqPos + 1 } else { c with timer := c.timer - 1 }

/-- One clock of the triangle timer (R949). -/
def Triangle.timerClock (c : Triangle) : Triangle :=
  if c.timer = 0 then
    { c with
      timer := c.period
      step := if c.length ≠ 0 ∧ c.linCounter ≠ 0 then c.step + 1 else c.step }
  else { c with timer := c.timer - 1 }

/-- The bit fed into the LFSR (R950). -/
def Noise.feedback (c : Noise) : Bool := c.lfsr.getLsbD 0 ^^ c.lfsr.getLsbD (if c.mode then 6 else 1)

/-- One clock of the noise timer and, on a reload, of the LFSR (R950). -/
def Noise.timerClock (c : Noise) : Noise :=
  if c.timer = 0 then
    { c with
      timer := noiseReload c.periodIdx
      lfsr := (c.lfsr >>> 1) ||| (if c.feedback then 0x4000 else 0) }
  else { c with timer := c.timer - 1 }

/-- The output of pulse n (R953). -/
def Pulse.output (low : SweepLowTest) (n : Nat) (c : Pulse) : Nat :=
  if c.length = 0 ∨ c.muted low n = true ∨ (dutyWave c.duty).getD c.seqPos.toNat 0 = 0 then 0 else c.env.volume

/-- The output of the triangle (R953, D41). -/
def Apu.triOutput (u : Apu) : Nat :=
  if u.enTri = true ∧ u.tri.length ≠ 0 ∧ u.tri.linCounter ≠ 0 then triSequence.getD u.tri.step.toNat 0 else 0

/-- The output of the noise channel (R953). -/
def Noise.output (c : Noise) : Nat := if c.length = 0 ∨ c.lfsr.getLsbD 0 = true then 0 else c.env.volume

/-- The nonlinear pulse mix (R954). -/
def pulseMix (p1 p2 : Nat) : Rat :=
  if p1 + p2 = 0 then 0 else (9588 / 100) / (8128 / ((p1 + p2 : Nat) : Rat) + 100)

/-- The nonlinear triangle and noise mix (R954). -/
def tndMix (tri noise : Nat) : Rat :=
  if tri = 0 ∧ noise = 0 then 0
  else (15979 / 100) / (1 / ((tri : Rat) / 8227 + (noise : Rat) / 12241) + 100)

/-- The mixer (R954): exact. -/
def mix (p1 p2 tri noise : Nat) : Rat := pulseMix p1 p2 + tndMix tri noise

/-- The mixer on the channel outputs of the moment (R953, R954). -/
def Apu.mixed (low : SweepLowTest) (u : Apu) : Rat :=
  mix (u.pulse1.output low 1) (u.pulse2.output low 2) u.triOutput u.noise.output

/-- q, a positive number below 2^bits, rounded to `bits` significant bits, to nearest and ties to even. -/
def roundSignificand (bits : Nat) (q : Rat) : Rat :=
  let shift := bits + q.den.log2 - q.num.natAbs.log2
  let k := if q.num.natAbs * 2 ^ shift / q.den < 2 ^ bits then shift else shift - 1
  let n := q.num.natAbs * 2 ^ k
  let f := n / q.den
  let twice := 2 * (n % q.den)
  let r := if twice < q.den ∨ (twice = q.den ∧ f % 2 = 0) then f else f + 1
  (r : Rat) / ((2 ^ k : Nat) : Rat)

/-- The rendering of an exact sample (`SAMPLE_NUMERIC`, D45). DESIGN CHOICE: the exact value is rounded once (log
entry 6). -/
def renderSample (n : SampleNumeric) (q : Rat) : Rat :=
  match n with
  | .exact => q
  | .binary32 => if q = 0 then 0 else roundSignificand 24 q
  | .binary64 => if q = 0 then 0 else roundSignificand 53 q

/-- One APU `tick()` (R955): sequencer, triangle timer, pulse timers on even cycles, noise timer, mixer, cycle. -/
def Apu.tick (low : SweepLowTest) (u : Apu) : Apu :=
  let u := u.sequencer low
  let u := { u with tri := u.tri.timerClock }
  let u :=
    if u.cycle % 2 = 0 then { u with pulse1 := u.pulse1.timerClock, pulse2 := u.pulse2.timerClock } else u
  let u := { u with noise := u.noise.timerClock }
  { u with sample := u.mixed low, cycle := u.cycle + 1 }

/-- One APU `tick()` of the machine, with the sample emitted to the host (R955, R1122). -/
def apuTick (s : State) : State :=
  let u := s.apu.tick s.cfg.sweepLowTest
  { s with apu := u, samples := renderSample s.cfg.sampleNumeric u.sample :: s.samples }

end Sys2Proof.Machine
end

