-- ==== Sys2Proof/Machine/Cartridge.lean ====
section
/-! DEFINITION. The cartridge space and the four mapper variants (63_cartridge_mapper.md R1005-R1040).

Addresses are naturals here: CPU addresses 0x4020-0xFFFF and PPU addresses 0x0000-0x1FFF, as R1005's domains say. -/

namespace Sys2Proof.Machine

/-- The mapper number of the variant (R1004, D34). -/
def Mapper.number : Mapper → Nat
  | .nrom => 0
  | .mmc1 _ => 1
  | .mmc3 _ => 4
  | .gxrom _ => 66

/-- CHR is RAM when the header declares no CHR bank (R133, R1002). -/
def Cartridge.chrIsRam (c : Cartridge) : Bool := c.chrBanks == 0

/-- |prg| in bytes (R133). -/
def Cartridge.prgSize (c : Cartridge) : Nat := 16384 * c.prgBanks

/-- |chr| in bytes (R133, R1002). -/
def Cartridge.chrSize (c : Cartridge) : Nat := if c.chrIsRam then 8192 else 8192 * c.chrBanks

/-- `PrgByte(o) = prg[o mod |prg|]` (R1007). -/
def Cartridge.prgByte (c : Cartridge) (o : Nat) : Byte := Cells.read c.prg (o % c.prgSize)

/-- `ChrByte(o) = chr[o mod |chr|]` (R1007). -/
def Cartridge.chrByte (c : Cartridge) (o : Nat) : Byte := Cells.read c.chr (o % c.chrSize)

/-- PRG offset of MMC1 (R1022). -/
def Mmc1.prgOffset (m : Mmc1) (prgBanks a : Nat) : Nat :=
  let b := m.prgBank.toNat % 16
  let off := a % 0x4000
  match m.control.toNat / 4 % 4 with
  | 2 => if a < 0xC000 then off else b * 16384 + off
  | 3 => if a < 0xC000 then b * 16384 + off else (prgBanks - 1) * 16384 + off
  | _ => b / 2 * 32768 + (a - 0x8000)

/-- PRG offset of MMC3: 8 KB windows, PRG mode in bit 6 of the bank select (R1031). -/
def Mmc3.prgOffset (m : Mmc3) (prgBanks a : Nat) : Nat :=
  let n8 := 2 * prgBanks
  let pm := m.bankSelect.getLsbD 6
  let bank :=
    if a < 0xA000 then (if pm then n8 - 2 else m.r6.toNat)
    else if a < 0xC000 then m.r7.toNat
    else if a < 0xE000 then (if pm then m.r6.toNat else n8 - 2)
    else n8 - 1
  bank * 8192 + a % 0x2000

/-- The variant's unreduced PRG offset of a CPU address at or above 0x8000 (R1010, R1022, R1031, R1040). For an NROM image
of 3 or more PRG banks, which R1003 loads, R1010 puts the reset vector at `prg[0x7FFC]` and R1205 at `prg[|prg| - 4]`; the
model follows R1010 (DESIGN CHOICE, log entry 20). -/
def Cartridge.prgOffset (c : Cartridge) (a : Nat) : Nat :=
  match c.mapper with
  | .nrom => a - 0x8000
  | .mmc1 m => m.prgOffset c.prgBanks a
  | .mmc3 m => m.prgOffset c.prgBanks a
  | .gxrom m => m.prgBank.toNat * 32768 + (a - 0x8000)

/-- `mapper.read(a)` at or above 0x6000: PRG-RAM (R1006), then the variant's PRG-ROM. Below 0x6000 nothing drives the
bus (R1006), which the CPU bus answers with a draw. -/
def Cartridge.read (c : Cartridge) (a : Nat) : Byte :=
  if a < 0x8000 then Cells.read c.prgRam (a - 0x6000) else c.prgByte (c.prgOffset a)

/-- The serial port of MMC1: one write (R1020). -/
def Mmc1.write (m : Mmc1) (a : Nat) (d : Byte) : Mmc1 :=
  if d.getLsbD 7 then { m with shift := 0, count := 0, control := m.control ||| 0x0C }
  else
    let shift := (m.shift >>> 1) ||| ((d.setWidth 5 &&& 1) <<< 4)
    if m.count + 1 = 5 then
      match a / 8192 % 4 with
      | 0 => { m with control := shift, shift := 0, count := 0 }
      | 1 => { m with chr0 := shift, shift := 0, count := 0 }
      | 2 => { m with chr1 := shift, shift := 0, count := 0 }
      | _ => { m with prgBank := shift, shift := 0, count := 0 }
    else { m with shift := shift, count := m.count + 1 }

/-- `r[k] <- d` (R1030). -/
def Mmc3.setBank (m : Mmc3) (k : Nat) (d : Byte) : Mmc3 :=
  match k with
  | 0 => { m with r0 := d }
  | 1 => { m with r1 := d }
  | 2 => { m with r2 := d }
  | 3 => { m with r3 := d }
  | 4 => { m with r4 := d }
  | 5 => { m with r5 := d }
  | 6 => { m with r6 := d }
  | _ => { m with r7 := d }

/-- Register writes of MMC3: the register is chosen by `a AND 0xE001` (R1030, R1033-R1035, R1037). -/
def Mmc3.write (m : Mmc3) (a : Nat) (d : Byte) : Mmc3 :=
  match a / 8192 % 4, a % 2 with
  | 0, 0 => { m with bankSelect := d }
  | 0, _ => m.setBank (m.bankSelect.toNat % 8) d
  | 1, 0 => { m with mirror := d.getLsbD 0 }
  | 1, _ => m
  | 2, 0 => { m with irqLatch := d }
  | 2, _ => { m with irqCounter := 0, irqReload := true }
  | _, 0 => { m with irqEnable := false, irqPending := false }
  | _, _ => { m with irqEnable := true }

/-- `mapper.write(a, d)` at or above 0x8000: register writes only; ROM does not change (R1010, R1020, R1030, R1040). -/
def Mapper.write (m : Mapper) (a : Nat) (d : Byte) : Mapper :=
  match m with
  | .nrom => .nrom
  | .mmc1 m => .mmc1 (m.write a d)
  | .mmc3 m => .mmc3 (m.write a d)
  | .gxrom _ => .gxrom { prgBank := (d >>> 4).setWidth 2, chrBank := d.setWidth 2 }

/-- `mapper.write(a, d)` for a CPU address at or above 0x4020 (R1006): nothing below 0x6000, PRG-RAM, registers. -/
def Cartridge.write (c : Cartridge) (a : Nat) (d : Byte) : Cartridge :=
  if a < 0x6000 then c
  else if a < 0x8000 then { c with prgRam := Cells.write c.prgRam (a - 0x6000) d }
  else { c with mapper := c.mapper.write a d }

/-- CHR offset of MMC1 (R1023). -/
def Mmc1.chrOffset (m : Mmc1) (a : Nat) : Nat :=
  if m.control.getLsbD 4 then
    if a < 0x1000 then m.chr0.toNat * 4096 + a else m.chr1.toNat * 4096 + (a - 0x1000)
  else m.chr0.toNat / 2 * 8192 + a

/-- CHR offset of MMC3: six registers over eight 1 KB windows, inverted by bit 7 of the bank select (R1032). -/
def Mmc3.chrOffset (m : Mmc3) (a : Nat) : Nat :=
  let k := a / 1024 % 8
  let k' := if m.bankSelect.getLsbD 7 then k ^^^ 4 else k
  let bank : Byte :=
    match k' with
    | 0 => m.r0 &&& 0xFE
    | 1 => m.r0 ||| 1
    | 2 => m.r1 &&& 0xFE
    | 3 => m.r1 ||| 1
    | 4 => m.r2
    | 5 => m.r3
    | 6 => m.r4
    | _ => m.r5
  bank.toNat * 1024 + a % 1024

/-- The variant's unreduced CHR offset of a PPU address below 0x2000 (R1010, R1023, R1032, R1040). -/
def Cartridge.chrOffset (c : Cartridge) (a : Nat) : Nat :=
  match c.mapper with
  | .nrom => a
  | .mmc1 m => m.chrOffset a
  | .mmc3 m => m.chrOffset a
  | .gxrom m => m.chrBank.toNat * 8192 + a

/-- `chrRead(a)` (R1005). -/
def Cartridge.chrRead (c : Cartridge) (a : Nat) : Byte := c.chrByte (c.chrOffset a)

/-- `chrWrite(a, d)`: stores where `chrRead(a)` reads, in CHR-RAM only (R1008). -/
def Cartridge.chrWrite (c : Cartridge) (a : Nat) (d : Byte) : Cartridge :=
  if c.chrIsRam then { c with chr := Cells.write c.chr (c.chrOffset a % 8192) d } else c

/-- `hasIRQ()` (R1005, R1025, R1038). -/
def Mapper.irqPending : Mapper → Bool
  | .mmc3 m => m.irqPending
  | _ => false

/-- The MMC3 counter clock (R1036). -/
def Mmc3.clockIrq (z : Mmc3IrqZero) (m : Mmc3) : Mmc3 :=
  let reload := m.irqCounter == 0 || m.irqReload
  let counter := if reload then m.irqLatch else m.irqCounter - 1
  let z0 := !reload && counter == 0
  let raise := counter == 0 && m.irqEnable && (z == .onZero || z0)
  { m with
    irqCounter := counter
    irqReload := if reload then false else m.irqReload
    irqPending := m.irqPending || raise }

/-- `clockIRQ()` (R1005, R1036): only MMC3 has a counter. -/
def Mapper.clockIrq (z : Mmc3IrqZero) : Mapper → Mapper
  | .mmc3 m => .mmc3 (m.clockIrq z)
  | m => m

/-- The mirroring modes of R242. -/
inductive Mirroring where
  | vertical
  | horizontal
  | singleLower
  | singleUpper
  deriving DecidableEq, Repr

/-- `getMirroringMode()`; `none` is DEFER, "a distinct value, not a mirroring mode" (R1005, R1024, R1033). -/
def Mapper.mirroring : Mapper → Option Mirroring
  | .nrom => none
  | .mmc1 m =>
    match m.control.toNat % 4 with
    | 0 => some .singleLower
    | 1 => some .singleUpper
    | 2 => some .vertical
    | _ => some .horizontal
  | .mmc3 m => some (if m.mirror then .horizontal else .vertical)
  | .gxrom _ => none

/-- The mirroring mode in force: the mapper's, or the header's when the mapper defers (R244). -/
def Cartridge.mirroring (c : Cartridge) : Mirroring :=
  match c.mapper.mirroring with
  | some m => m
  | none => if c.hdrMirror then .vertical else .horizontal

/-- The mapper at construction, with the register values in brackets of R134 (R1004, R1026, R1033); none for a number
that is not supported (R1003). -/
def Mapper.construct (number : Nat) (hdrMirror : Bool) : Option Mapper :=
  match number with
  | 0 => some .nrom
  | 1 => some (.mmc1 { shift := 0, count := 0, control := 0x0C, chr0 := 0, chr1 := 0, prgBank := 0 })
  | 4 => some (.mmc3 {
      bankSelect := 0, r0 := 0, r1 := 0, r2 := 0, r3 := 0, r4 := 0, r5 := 0, r6 := 0, r7 := 0
      mirror := !hdrMirror, irqLatch := 0, irqCounter := 0, irqReload := false, irqEnable := false
      irqPending := false })
  | 66 => some (.gxrom { prgBank := 0, chrBank := 0 })
  | _ => none

end Sys2Proof.Machine
end

