-- ==== Sys2Proof/Machine/PpuBus.lean ====
section
/-! DEFINITION. The PPU's 14-bit bus (20_memory.md R240-R244) and the PPU's register ports (61_ppu.md R800-R808). -/

namespace Sys2Proof.Machine

/-- `Phys(mode, L)` (R242). -/
def physicalTable (mode : Mirroring) (l : Nat) : Nat :=
  match mode with
  | .vertical => l % 2
  | .horizontal => l / 2
  | .singleLower => 0
  | .singleUpper => 1

/-- `NtIndex(a)` for a in 0x2000-0x3EFF (R241). -/
def ntIndex (mode : Mirroring) (a : Nat) : Nat :=
  let r := (a - 0x2000) % 0x1000
  physicalTable mode (r / 1024) * 0x400 + r % 1024

/-- `PalIndex(a)` for a in 0x3F00-0x3FFF (R243). -/
def palIndex (a : Nat) : Nat :=
  let i := a % 32
  if i = 0x10 ∨ i = 0x14 ∨ i = 0x18 ∨ i = 0x1C then i - 0x10 else i

/-- `PpuRead(a)` (R240): no side effect. -/
def ppuRead (c : Cartridge) (p : Ppu) (addr : Nat) : Byte :=
  let a := addr % 0x4000
  if a < 0x2000 then c.chrRead a
  else if a < 0x3F00 then Cells.read p.nt (ntIndex c.mirroring a)
  else Cells.read p.pal (palIndex a)

/-- `PpuWrite(a, d)` (R240). -/
def ppuWrite (addr : Nat) (d : Byte) (s : State) : State :=
  let a := addr % 0x4000
  if a < 0x2000 then { s with cart := s.cart.chrWrite a d }
  else if a < 0x3F00 then
    { s with ppu := { s.ppu with nt := Cells.write s.ppu.nt (ntIndex s.cart.mirroring a) d } }
  else { s with ppu := { s.ppu with pal := Cells.write s.ppu.pal (palIndex a) d } }

/-- NMI at VBlank start enable, PPUCTRL bit 7 (R116). -/
def Ppu.nmie (p : Ppu) : Bool := p.ctrl.getLsbD 7

/-- "Rendering enabled" means `BG = 1 or SPR = 1` (R117, D55). -/
def Ppu.rendering (p : Ppu) : Bool := p.mask.getLsbD 3 || p.mask.getLsbD 4

/-- `inc` is 32 when `ppu.ctrl.INC = 1`, else 1 (R116). -/
def Ppu.inc (p : Ppu) : BitVec 15 := if p.ctrl.getLsbD 2 then 32 else 1

/-- The PPUSTATUS byte a read returns (R118, R802). -/
def Ppu.statusByte (p : Ppu) : Byte :=
  setBit (setBit (setBit (p.latch &&& 0x1F) 7 p.vbl) 6 p.s0) 5 p.ovf

/-- Port 0 write, PPUCTRL (R800). -/
def writeCtrl (cfg : Config) (d : Byte) (p : Ppu) : Ppu :=
  { p with
    ctrl := d
    t := (p.t &&& 0x73FF) ||| ((d &&& 0x03).setWidth 15 <<< 10)
    nmiRequest := p.nmiRequest || (!p.nmie && d.getLsbD 7 && p.vbl && cfg.nmiOnCtrlEnable) }

/-- Port 4 write, OAMDATA (R804), which OAM DMA uses (R220). -/
def writeOamData (d : Byte) (p : Ppu) : Ppu :=
  { p with oam := Cells.write p.oam p.oamAddr.toNat d, oamAddr := p.oamAddr + 1 }

/-- Port 5 write, PPUSCROLL: X scroll first, then Y scroll (R805). -/
def writeScroll (d : Byte) (p : Ppu) : Ppu :=
  if p.w then
    { p with
      t := (p.t &&& 0x0C1F) ||| ((d &&& 7).setWidth 15 <<< 12) ||| ((d >>> 3).setWidth 15 <<< 5)
      w := false }
  else { p with t := (p.t &&& 0x7FE0) ||| (d >>> 3).setWidth 15, x := d.setWidth 3, w := true }

/-- Port 6 write, PPUADDR: high byte first, then the low byte and the copy to v (R806). -/
def writeAddr (d : Byte) (p : Ppu) : Ppu :=
  if p.w then
    let t := (p.t &&& 0x7F00) ||| d.setWidth 15
    { p with t := t, v := t, w := false }
  else { p with t := (p.t &&& 0x00FF) ||| ((d &&& 0x3F).setWidth 15 <<< 8), w := true }

/-- "Every write to any port also sets `ppu.latch <- d`" (R808). -/
def setLatch (d : Byte) (s : State) : State := { s with ppu := { s.ppu with latch := d } }

/-- The address PPUDATA acts on: `v AND 0x3FFF` (R120, R807). -/
def Ppu.dataAddr (p : Ppu) : Nat := p.v.toNat % 0x4000

/-- `v <- (v + inc) AND 0x7FFF` (R807, D26). -/
def advanceV (s : State) : State := { s with ppu := { s.ppu with v := s.ppu.v + s.ppu.inc } }

/-- A write of d to PPU port n (R800-R808). -/
def portWrite (n : Nat) (d : Byte) (s : State) : State :=
  let s := setLatch d s
  match n with
  | 0 => { s with ppu := writeCtrl s.cfg d s.ppu }
  | 1 => { s with ppu := { s.ppu with mask := d } }
  | 2 => s
  | 3 => { s with ppu := { s.ppu with oamAddr := d } }
  | 4 => { s with ppu := writeOamData d s.ppu }
  | 5 => { s with ppu := writeScroll d s.ppu }
  | 6 => { s with ppu := writeAddr d s.ppu }
  | _ => advanceV (ppuWrite s.ppu.dataAddr d s)

/-- Port 2 read, PPUSTATUS (R802). -/
def readStatus (s : State) : Byte × State :=
  let r := s.ppu.statusByte
  (r, { s with ppu := { s.ppu with vbl := false, w := false, latch := r } })

/-- Port 4 read, OAMDATA (R804, D23). -/
def readOamData (s : State) : Byte × State :=
  let r := Cells.read s.ppu.oam s.ppu.oamAddr.toNat
  (r, { s with ppu := { s.ppu with oamAddr := s.ppu.oamAddr + 1, latch := r } })

/-- Port 7 read, PPUDATA: buffered below the palette, immediate in it (R807, D24). -/
def readData (s : State) : Byte × State :=
  let a := s.ppu.dataAddr
  let r := if a < 0x3F00 then s.ppu.readBuffer else ppuRead s.cart s.ppu a
  let buffer := if a < 0x3F00 then ppuRead s.cart s.ppu a else ppuRead s.cart s.ppu (a - 0x1000)
  (r, advanceV { s with ppu := { s.ppu with readBuffer := buffer, latch := r } })

/-- A read of PPU port n; the write-only ports give the latch and change nothing (R802, R804, R807, R808). -/
def portRead (n : Nat) (s : State) : Byte × State :=
  match n with
  | 2 => readStatus s
  | 4 => readOamData s
  | 7 => readData s
  | _ => (s.ppu.latch, s)

end Sys2Proof.Machine
end

