-- ==== Sys2Proof/Machine/Ops.lean ====
section
/-! DEFINITION. The CPU bus with its devices (20_memory.md R200-R232), the stack, the cycle count of an instruction, and
taking and returning from an exception (60_exceptions.md R700-R719). -/

namespace Sys2Proof.Machine

/-! ### The devices the CPU bus itself owns -/

/-- Write to 0x4016: the strobe, and the latch at its falling edge (R230). -/
def Controller.write (c : Controller) (d : Byte) : Controller :=
  if c.strobe && !d.getLsbD 0 then { c with shiftReg := c.buttons, shiftIndex := 0, strobe := false }
  else { c with strobe := d.getLsbD 0 }

/-- The bit a read of 0x4016 gives (R231). -/
def Controller.bit (c : Controller) : Bool :=
  if c.strobe then c.buttons.getLsbD 0
  else if c.shiftIndex < 8 then c.shiftReg.getLsbD c.shiftIndex
  else true

/-- Read of 0x4016: `0x40 OR bit`, and the shift index moves on (R231, D52). -/
def controllerRead (s : State) : Byte × State :=
  let next := if s.ctl.strobe = false ∧ s.ctl.shiftIndex < 8 then s.ctl.shiftIndex + 1 else s.ctl.shiftIndex
  (setBit 0x40 0 s.ctl.bit, { s with ctl := { s.ctl with shiftIndex := next } })

/-- Read of 0x4015: the channel status; it acknowledges the frame IRQ (R952). -/
def apuStatusRead (s : State) : Byte × State := (s.apu.statusByte, { s with apu := { s.apu with frameIrq := false } })

/-- Read of an address nothing drives: a fresh draw (R19, R201, D29). -/
def openBusRead (s : State) : Byte × State := (Config.openBus s.draws, { s with draws := s.draws + 1 })

/-! ### The CPU bus -/

/-- `Read(a)` (R14, R201, R1006): the value and the state with the read's side effects. -/
def busRead (addr : Word) (s : State) : Byte × State :=
  let a := addr.toNat
  if a < 0x2000 then (Cells.read s.ram (a % 0x800), s)
  else if a < 0x4000 then portRead (a % 8) s
  else if a = 0x4015 then apuStatusRead s
  else if a = 0x4016 then controllerRead s
  else if a = 0x4017 then (0x40, s)
  else if a < 0x6000 then openBusRead s
  else (s.cart.read a, s)

/-- n transfers of an OAM DMA from page d, from byte i on: one bus read, then one port-4 write (R220). -/
def oamDmaFrom (d : Byte) : Nat → Nat → State → State
  | 0, _, s => s
  | n + 1, i, s =>
    let r := busRead (BitVec.ofNat 16 (d.toNat * 256 + i)) s
    oamDmaFrom d n (i + 1) (portWrite 4 r.1 r.2)

/-- OAM DMA from page d: "256 sequential bus reads" (R220). -/
def oamDma (d : Byte) (s : State) : State := oamDmaFrom d 256 0 s

/-- `Write(a, d)` (R14, R202, R1006). -/
def busWrite (addr : Word) (d : Byte) (s : State) : State :=
  let a := addr.toNat
  if a < 0x2000 then { s with ram := Cells.write s.ram (a % 0x800) d }
  else if a < 0x4000 then portWrite (a % 8) d s
  else if a < 0x4014 then { s with apu := s.apu.write a d }
  else if a = 0x4014 then oamDma d s
  else if a = 0x4015 then { s with apu := s.apu.writeEnable d }
  else if a = 0x4016 then { s with ctl := s.ctl.write d }
  else if a = 0x4017 then { s with apu := s.apu.writeFrame s.cfg.sweepLowTest d }
  else if a < 0x4020 then s
  else { s with cart := s.cart.write a d }

/-! ### Time -/

/-- The CPU step returns n cycles: they are added to the counter (R106, R321). -/
def spend (n : Nat) (s : State) : State := { s with cycles := s.cycles + n }

/-- The cycles of an instruction of own count `own` that has written to `addr`, started at `cycles`: OAM DMA stalls the
CPU 513 cycles, and one more when `cycles + own` is odd (R221, D32). -/
def writeCycles (own : Nat) (addr : Word) (cycles : Nat) : Nat :=
  if addr = 0x4014 then own + 513 + (cycles + own) % 2 else own

/-! ### The stack -/

/-- The address of the next free stack byte, `0x0100 + SP` (R103, R206). -/
def stackAddr (sp : Byte) : Word := 0x0100 + sp.setWidth 16

/-- `Push(v)` (R15). -/
def push (v : Byte) (s : State) : State :=
  let s' := busWrite (stackAddr s.sp) v s
  { s' with sp := s.sp - 1 }

/-- `Pull()` (R15). -/
def pull (s : State) : Byte × State := busRead (stackAddr (s.sp + 1)) { s with sp := s.sp + 1 }

/-- A 16-bit value is pushed high byte first (R210, R561, R564, R710). -/
def pushWord (v : Word) (s : State) : State := push (lowByte v) (push (highByte v) s)

/-- A 16-bit value is pulled low byte first (R562, R563). -/
def pullWord (s : State) : Word × State :=
  let lo := pull s
  let hi := pull lo.2
  (hiLo hi.1 lo.1, hi.2)

/-! ### Exceptions -/

/-- `Read(a+1) : Read(a)`, low byte first, with the plain 16-bit successor (R14, R211, R313). -/
def readWord (a : Word) (s : State) : Word × State :=
  let lo := busRead a s
  let hi := busRead (a + 1) lo.2
  (hiLo hi.1 lo.1, hi.2)

/-- The NMI vector, 0xFFFA/0xFFFB (R205). -/
def nmiVector : Word := 0xFFFA

/-- The reset vector, 0xFFFC/0xFFFD (R205). -/
def resetVector : Word := 0xFFFC

/-- The IRQ and BRK vector, 0xFFFE/0xFFFF (R205). -/
def irqVector : Word := 0xFFFE

/-- Taking an exception, shared by NMI, IRQ and BRK (R564, R710): the return PC, high byte first, and the given status
byte go on the stack, I is set, and PC is loaded from the vector. -/
def takeException (vec : Word) (pushed : Byte) (s : State) : State :=
  let s1 := push pushed (pushWord s.pc s)
  let s2 := { s1 with p := setBit s1.p 2 true }
  let target := readWord vec s2
  { target.2 with pc := target.1 }

/-- The status byte an NMI or IRQ entry pushes: B = 0, U = 1 (R710, R113). -/
def entryStatus (p : Byte) : Byte := (p &&& 0xEF) ||| 0x20

/-- The status byte PHP and BRK push: B = 1, U = 1 (R414, R564, R113). -/
def pushedStatus (p : Byte) : Byte := p ||| 0x30

/-- The live status PLP and RTI load from a pulled byte: B = 0, U = 1 (R416, R563, R113). -/
def pulledStatus (b : Byte) : Byte := (b &&& 0xCF) ||| 0x20

/-- Interrupt entry `Enter(vec)` (R710), 7 cycles. -/
def enter (vec : Word) (s : State) : State := spend 7 (takeException vec (entryStatus s.p) s)

/-- Return from an exception (R563, R719): P with B = 0 and U = 1, then PC, from the stack. -/
def returnFromException (s : State) : State :=
  let st := pull s
  let target := pullWord { st.2 with p := pulledStatus st.1 }
  { target.2 with pc := target.1 }

/-- `raise Fatal(op, pc0)` (R17, R700): the record is set and PC is the opcode's address again. The opcode has been
fetched, so PC stands one past it. -/
def raiseFatal (op : Byte) (s : State) : State := { s with fault := some { opcode := op, pc := s.pc - 1 }, pc := s.pc - 1 }

end Sys2Proof.Machine
end

