-- ==== Sys2Proof/Machine/Flags.lean ====
section
/-! DEFINITION. The status flags and every flag computation of the spec (10_state.md R104, 00_scope.md R16,
41_arith_logic.md R447, R448, 42_shift_rotate.md R500). -/

namespace Sys2Proof.Machine

/-- Carry, bit 0 of P (R104). -/
def State.c (s : State) : Bool := s.p.getLsbD 0

/-- Zero, bit 1 of P (R104). -/
def State.z (s : State) : Bool := s.p.getLsbD 1

/-- Interrupt disable, bit 2 of P (R104). -/
def State.i (s : State) : Bool := s.p.getLsbD 2

/-- Decimal, bit 3 of P (R104). -/
def State.d (s : State) : Bool := s.p.getLsbD 3

/-- Overflow, bit 6 of P (R104). -/
def State.v (s : State) : Bool := s.p.getLsbD 6

/-- Negative, bit 7 of P (R104). -/
def State.n (s : State) : Bool := s.p.getLsbD 7

/-- `P.C <- b`. -/
def setC (b : Bool) (s : State) : State := { s with p := setBit s.p 0 b }

/-- `P.I <- b`. -/
def setI (b : Bool) (s : State) : State := { s with p := setBit s.p 2 b }

/-- `P.D <- b`. -/
def setD (b : Bool) (s : State) : State := { s with p := setBit s.p 3 b }

/-- `P.V <- b`. -/
def setV (b : Bool) (s : State) : State := { s with p := setBit s.p 6 b }

/-- `SetZN(r)` (R16). -/
def setZN (r : Byte) (s : State) : State := { s with p := setBit (setBit s.p 1 (r == 0)) 7 (r.getLsbD 7) }

/-- `A <- r; SetZN(A)`. -/
def loadA (r : Byte) (s : State) : State := setZN r { s with a := r }

/-- `X <- r; SetZN(X)`. -/
def loadX (r : Byte) (s : State) : State := setZN r { s with x := r }

/-- `Y <- r; SetZN(Y)`. -/
def loadY (r : Byte) (s : State) : State := setZN r { s with y := r }

/-- `AddCore(m)` (R447): the 9-bit sum, its carry, and the two's-complement overflow. D is ignored (R446). -/
def addCore (m : Byte) (s : State) : State :=
  let sum := s.a.toNat + m.toNat + bit s.c
  let r := BitVec.ofNat 8 sum
  loadA r (setV (((s.a ^^^ r) &&& (m ^^^ r)).getLsbD 7) (setC (decide (256 ≤ sum)) s))

/-- SBC: "`ADC` with the operand's bits inverted" (R452). -/
def subCore (m : Byte) (s : State) : State := addCore (m ^^^ 0xFF) s

/-- `Compare(reg, m)` (R448). -/
def compare (reg m : Byte) (s : State) : State := setZN (reg - m) (setC (decide (m.toNat ≤ reg.toNat)) s)

/-- `ShlOp(m)` (R500): the result, and the state with C. -/
def shlOp (m : Byte) (s : State) : Byte × State := (m <<< 1, setC (m.getLsbD 7) s)

/-- `ShrOp(m)` (R500). -/
def shrOp (m : Byte) (s : State) : Byte × State := (m >>> 1, setC (m.getLsbD 0) s)

/-- `RolOp(m)` (R500). -/
def rolOp (m : Byte) (s : State) : Byte × State := (setBit (m <<< 1) 0 s.c, setC (m.getLsbD 7) s)

/-- `RorOp(m)` (R500). -/
def rorOp (m : Byte) (s : State) : Byte × State := (setBit (m >>> 1) 7 s.c, setC (m.getLsbD 0) s)

/-- `(m + 1) AND 0xFF` (R460, R608): no flag of its own. -/
def incOp (m : Byte) (s : State) : Byte × State := (m + 1, s)

/-- `(m − 1) AND 0xFF` (R461, R607): no flag of its own. -/
def decOp (m : Byte) (s : State) : Byte × State := (m - 1, s)

end Sys2Proof.Machine
end

