-- ==== Sys2Proof/Machine/Operands.lean ====
section
/-! DEFINITION. Every operand form (30_encoding.md R302-R314) and the shapes of bus access an instruction can have
(R320), with their cycles (R330-R332). -/

namespace Sys2Proof.Machine

/-- An effective address: `EA`, the unindexed `base`, and whether their pages differ (R302-R310). -/
structure EffAddr where
  addr : Word
  base : Word
  crossed : Bool
  deriving DecidableEq, Repr

/-- A zero-page address `zext_16(z)` (R304). -/
def zeroPage (z : Byte) : Word := z.setWidth 16

/-- An address that no index moves into another page. -/
def EffAddr.direct (a : Word) : EffAddr := { addr := a, base := a, crossed := false }

/-- `EA <- (base + index) AND 0xFFFF` with the page-cross condition (R307, R310). -/
def EffAddr.indexed (base : Word) (index : Byte) : EffAddr :=
  let addr := base + index.setWidth 16
  { addr := addr, base := base, crossed := highByte base != highByte addr }

/-- The pointer at z and `(z + 1) AND 0xFF` in page 0 (R309, R310, R312). Page 0 is internal RAM (R206), so the two reads
have no side effect (R214) and the state is not threaded through them. -/
def zeroPagePointer (z : Byte) (s : State) : Word := hiLo (busRead (zeroPage (z + 1)) s).1 (busRead (zeroPage z) s).1

/-- The effective address of each memory form (R304-R307, R309, R310). -/
def effAddr (m : MemForm) (s : State) : EffAddr :=
  match m with
  | .zp n => .direct (zeroPage n)
  | .zpx n => .direct (zeroPage (n + s.x))
  | .zpy n => .direct (zeroPage (n + s.y))
  | .abs a => .direct a
  | .abx a => .indexed a s.x
  | .aby a => .indexed a s.y
  | .izx n => .direct (zeroPagePointer (n + s.x) s)
  | .izy n => .indexed (zeroPagePointer n s) s.y

/-- The operand value `M` of a read instruction, and the state after the read (R303, R314). -/
def readSource (o : Source) (s : State) : Byte × State :=
  match o with
  | .imm n => (n, s)
  | .mem m => busRead (effAddr m s).addr s

/-- "One more cycle when `crossed` is true", for read-class instructions (R331). -/
def pagePenalty (o : Source) (s : State) : Nat :=
  match o with
  | .imm _ => 0
  | .mem m => if (effAddr m s).crossed then 1 else 0

/-- A register instruction: no bus access (R320). -/
def implied (cyc : Nat) (f : State → State) (s : State) : StepResult := .next (spend cyc (f s))

/-- A read or immediate instruction: one data read at EA, then f on the value (R314, R320). -/
def readWith (cyc : Nat) (o : Source) (f : Byte → State → State) (s : State) : StepResult :=
  let r := readSource o s
  .next (spend (cyc + pagePenalty o s) (f r.1 r.2))

/-- One data write of v at addr, with the DMA stall if addr is 0x4014 (R314, R320, R321). -/
def storeAt (cyc : Nat) (addr : Word) (v : Byte) (s : State) : StepResult :=
  .next (spend (writeCycles cyc addr s.cycles) (busWrite addr v s))

/-- A write instruction: one data write at EA, no read of it (R320). -/
def writeTo (cyc : Nat) (m : MemForm) (v : Byte) (s : State) : StepResult := storeAt cyc (effAddr m s).addr v s

/-- A read-modify-write instruction: one read, one write of `op`'s result, then g on the result (R320, R600). -/
def modify (cyc : Nat) (m : MemForm) (op : Byte → State → Byte × State) (g : Byte → State → State) (s : State) :
    StepResult :=
  let addr := (effAddr m s).addr
  let r := busRead addr s
  let res := op r.1 r.2
  .next (spend (writeCycles cyc addr s.cycles) (g res.1 (busWrite addr res.1 res.2)))

/-- A shift of the accumulator (R302, R314). -/
def modifyA (cyc : Nat) (op : Byte → State → Byte × State) (s : State) : StepResult :=
  let res := op s.a s
  .next (spend cyc (loadA res.1 res.2))

/-- The target of a branch with displacement d; PC is the address of the next instruction (R308). -/
def branchTarget (d : Int) (pc : Word) : Word := pc + BitVec.ofInt 16 d

/-- A conditional branch (R550), with its cycles (R332). -/
def branch (cyc : Nat) (cond : Bool) (d : Int) (s : State) : StepResult :=
  let target := branchTarget d s.pc
  if cond then
    .next (spend (cyc + 1 + (if highByte s.pc = highByte target then 0 else 1)) { s with pc := target })
  else .next (spend cyc s)

end Sys2Proof.Machine
end

