-- ==== Sys2Proof/Machine/Arith.lean ====
section
/-! DEFINITION. Arithmetic, logic, compare, increment and decrement instructions (41_arith_logic.md R446-R465).

For each mnemonic its meaning once, over its cycle count and operand; then one definition per row of the opcode map. -/

namespace Sys2Proof.Machine

/-- ADC: `AddCore(M)` (R451). -/
def runAdc (cyc : Nat) (o : Source) (s : State) : StepResult := readWith cyc o addCore s

/-- SBC: `AddCore(M XOR 0xFF)` (R452). -/
def runSbc (cyc : Nat) (o : Source) (s : State) : StepResult := readWith cyc o subCore s

/-- AND: `A <- A AND M; SetZN(A)` (R453). -/
def runAnd (cyc : Nat) (o : Source) (s : State) : StepResult := readWith cyc o (fun m s => loadA (s.a &&& m) s) s

/-- ORA: `A <- A OR M; SetZN(A)` (R454). -/
def runOra (cyc : Nat) (o : Source) (s : State) : StepResult := readWith cyc o (fun m s => loadA (s.a ||| m) s) s

/-- EOR: `A <- A XOR M; SetZN(A)` (R455). -/
def runEor (cyc : Nat) (o : Source) (s : State) : StepResult := readWith cyc o (fun m s => loadA (s.a ^^^ m) s) s

/-- The flags of BIT: Z from `A AND M`, N from `M[7]`, V from `M[6]` (R456). -/
def testBits (m : Byte) (s : State) : State :=
  { s with p := setBit (setBit (setBit s.p 1 (s.a &&& m == 0)) 7 (m.getLsbD 7)) 6 (m.getLsbD 6) }

/-- BIT (R456). -/
def runBit (cyc : Nat) (o : Source) (s : State) : StepResult := readWith cyc o testBits s

/-- CMP: `Compare(A, M)` (R457). -/
def runCmp (cyc : Nat) (o : Source) (s : State) : StepResult := readWith cyc o (fun m s => compare s.a m s) s

/-- CPX: `Compare(X, M)` (R458). -/
def runCpx (cyc : Nat) (o : Source) (s : State) : StepResult := readWith cyc o (fun m s => compare s.x m s) s

/-- CPY: `Compare(Y, M)` (R459). -/
def runCpy (cyc : Nat) (o : Source) (s : State) : StepResult := readWith cyc o (fun m s => compare s.y m s) s

/-- INC: read, add 1, write, SetZN (R460). -/
def runInc (cyc : Nat) (m : MemForm) (s : State) : StepResult := modify cyc m incOp setZN s

/-- DEC: read, subtract 1, write, SetZN (R461). -/
def runDec (cyc : Nat) (m : MemForm) (s : State) : StepResult := modify cyc m decOp setZN s

/-- INX (R462). -/
def runInx (cyc : Nat) (s : State) : StepResult := implied cyc (fun s => loadX (s.x + 1) s) s

/-- INY (R463). -/
def runIny (cyc : Nat) (s : State) : StepResult := implied cyc (fun s => loadY (s.y + 1) s) s

/-- DEX (R464). -/
def runDex (cyc : Nat) (s : State) : StepResult := implied cyc (fun s => loadX (s.x - 1) s) s

/-- DEY (R465). -/
def runDey (cyc : Nat) (s : State) : StepResult := implied cyc (fun s => loadY (s.y - 1) s) s

/-- 0x61 (R451). -/
def execAdcIzx (n : Byte) (s : State) : StepResult := runAdc 6 (.mem (.izx n)) s
/-- 0x65 (R451). -/
def execAdcZp (n : Byte) (s : State) : StepResult := runAdc 3 (.mem (.zp n)) s
/-- 0x69 (R451). -/
def execAdcImm (n : Byte) (s : State) : StepResult := runAdc 2 (.imm n) s
/-- 0x6D (R451). -/
def execAdcAbs (a : Word) (s : State) : StepResult := runAdc 4 (.mem (.abs a)) s
/-- 0x71 (R451). -/
def execAdcIzy (n : Byte) (s : State) : StepResult := runAdc 5 (.mem (.izy n)) s
/-- 0x75 (R451). -/
def execAdcZpx (n : Byte) (s : State) : StepResult := runAdc 4 (.mem (.zpx n)) s
/-- 0x79 (R451). -/
def execAdcAby (a : Word) (s : State) : StepResult := runAdc 4 (.mem (.aby a)) s
/-- 0x7D (R451). -/
def execAdcAbx (a : Word) (s : State) : StepResult := runAdc 4 (.mem (.abx a)) s

/-- 0xE1 (R452). -/
def execSbcIzx (n : Byte) (s : State) : StepResult := runSbc 6 (.mem (.izx n)) s
/-- 0xE5 (R452). -/
def execSbcZp (n : Byte) (s : State) : StepResult := runSbc 3 (.mem (.zp n)) s
/-- 0xE9 (R452). -/
def execSbcImm (n : Byte) (s : State) : StepResult := runSbc 2 (.imm n) s
/-- 0xEB (R613). -/
def execSbcImmEB (n : Byte) (s : State) : StepResult := runSbc 2 (.imm n) s
/-- 0xED (R452). -/
def execSbcAbs (a : Word) (s : State) : StepResult := runSbc 4 (.mem (.abs a)) s
/-- 0xF1 (R452). -/
def execSbcIzy (n : Byte) (s : State) : StepResult := runSbc 5 (.mem (.izy n)) s
/-- 0xF5 (R452). -/
def execSbcZpx (n : Byte) (s : State) : StepResult := runSbc 4 (.mem (.zpx n)) s
/-- 0xF9 (R452). -/
def execSbcAby (a : Word) (s : State) : StepResult := runSbc 4 (.mem (.aby a)) s
/-- 0xFD (R452). -/
def execSbcAbx (a : Word) (s : State) : StepResult := runSbc 4 (.mem (.abx a)) s

/-- 0x21 (R453). -/
def execAndIzx (n : Byte) (s : State) : StepResult := runAnd 6 (.mem (.izx n)) s
/-- 0x25 (R453). -/
def execAndZp (n : Byte) (s : State) : StepResult := runAnd 3 (.mem (.zp n)) s
/-- 0x29 (R453). -/
def execAndImm (n : Byte) (s : State) : StepResult := runAnd 2 (.imm n) s
/-- 0x2D (R453). -/
def execAndAbs (a : Word) (s : State) : StepResult := runAnd 4 (.mem (.abs a)) s
/-- 0x31 (R453). -/
def execAndIzy (n : Byte) (s : State) : StepResult := runAnd 5 (.mem (.izy n)) s
/-- 0x35 (R453). -/
def execAndZpx (n : Byte) (s : State) : StepResult := runAnd 4 (.mem (.zpx n)) s
/-- 0x39 (R453). -/
def execAndAby (a : Word) (s : State) : StepResult := runAnd 4 (.mem (.aby a)) s
/-- 0x3D (R453). -/
def execAndAbx (a : Word) (s : State) : StepResult := runAnd 4 (.mem (.abx a)) s

/-- 0x01 (R454). -/
def execOraIzx (n : Byte) (s : State) : StepResult := runOra 6 (.mem (.izx n)) s
/-- 0x05 (R454). -/
def execOraZp (n : Byte) (s : State) : StepResult := runOra 3 (.mem (.zp n)) s
/-- 0x09 (R454). -/
def execOraImm (n : Byte) (s : State) : StepResult := runOra 2 (.imm n) s
/-- 0x0D (R454). -/
def execOraAbs (a : Word) (s : State) : StepResult := runOra 4 (.mem (.abs a)) s
/-- 0x11 (R454). -/
def execOraIzy (n : Byte) (s : State) : StepResult := runOra 5 (.mem (.izy n)) s
/-- 0x15 (R454). -/
def execOraZpx (n : Byte) (s : State) : StepResult := runOra 4 (.mem (.zpx n)) s
/-- 0x19 (R454). -/
def execOraAby (a : Word) (s : State) : StepResult := runOra 4 (.mem (.aby a)) s
/-- 0x1D (R454). -/
def execOraAbx (a : Word) (s : State) : StepResult := runOra 4 (.mem (.abx a)) s

/-- 0x41 (R455). -/
def execEorIzx (n : Byte) (s : State) : StepResult := runEor 6 (.mem (.izx n)) s
/-- 0x45 (R455). -/
def execEorZp (n : Byte) (s : State) : StepResult := runEor 3 (.mem (.zp n)) s
/-- 0x49 (R455). -/
def execEorImm (n : Byte) (s : State) : StepResult := runEor 2 (.imm n) s
/-- 0x4D (R455). -/
def execEorAbs (a : Word) (s : State) : StepResult := runEor 4 (.mem (.abs a)) s
/-- 0x51 (R455). -/
def execEorIzy (n : Byte) (s : State) : StepResult := runEor 5 (.mem (.izy n)) s
/-- 0x55 (R455). -/
def execEorZpx (n : Byte) (s : State) : StepResult := runEor 4 (.mem (.zpx n)) s
/-- 0x59 (R455). -/
def execEorAby (a : Word) (s : State) : StepResult := runEor 4 (.mem (.aby a)) s
/-- 0x5D (R455). -/
def execEorAbx (a : Word) (s : State) : StepResult := runEor 4 (.mem (.abx a)) s

/-- 0x24 (R456). -/
def execBitZp (n : Byte) (s : State) : StepResult := runBit 3 (.mem (.zp n)) s
/-- 0x2C (R456). -/
def execBitAbs (a : Word) (s : State) : StepResult := runBit 4 (.mem (.abs a)) s

/-- 0xC1 (R457). -/
def execCmpIzx (n : Byte) (s : State) : StepResult := runCmp 6 (.mem (.izx n)) s
/-- 0xC5 (R457). -/
def execCmpZp (n : Byte) (s : State) : StepResult := runCmp 3 (.mem (.zp n)) s
/-- 0xC9 (R457). -/
def execCmpImm (n : Byte) (s : State) : StepResult := runCmp 2 (.imm n) s
/-- 0xCD (R457). -/
def execCmpAbs (a : Word) (s : State) : StepResult := runCmp 4 (.mem (.abs a)) s
/-- 0xD1 (R457). -/
def execCmpIzy (n : Byte) (s : State) : StepResult := runCmp 5 (.mem (.izy n)) s
/-- 0xD5 (R457). -/
def execCmpZpx (n : Byte) (s : State) : StepResult := runCmp 4 (.mem (.zpx n)) s
/-- 0xD9 (R457). -/
def execCmpAby (a : Word) (s : State) : StepResult := runCmp 4 (.mem (.aby a)) s
/-- 0xDD (R457). -/
def execCmpAbx (a : Word) (s : State) : StepResult := runCmp 4 (.mem (.abx a)) s

/-- 0xE0 (R458). -/
def execCpxImm (n : Byte) (s : State) : StepResult := runCpx 2 (.imm n) s
/-- 0xE4 (R458). -/
def execCpxZp (n : Byte) (s : State) : StepResult := runCpx 3 (.mem (.zp n)) s
/-- 0xEC (R458). -/
def execCpxAbs (a : Word) (s : State) : StepResult := runCpx 4 (.mem (.abs a)) s

/-- 0xC0 (R459). -/
def execCpyImm (n : Byte) (s : State) : StepResult := runCpy 2 (.imm n) s
/-- 0xC4 (R459). -/
def execCpyZp (n : Byte) (s : State) : StepResult := runCpy 3 (.mem (.zp n)) s
/-- 0xCC (R459). -/
def execCpyAbs (a : Word) (s : State) : StepResult := runCpy 4 (.mem (.abs a)) s

/-- 0xE6 (R460). -/
def execIncZp (n : Byte) (s : State) : StepResult := runInc 5 (.zp n) s
/-- 0xEE (R460). -/
def execIncAbs (a : Word) (s : State) : StepResult := runInc 6 (.abs a) s
/-- 0xF6 (R460). -/
def execIncZpx (n : Byte) (s : State) : StepResult := runInc 6 (.zpx n) s
/-- 0xFE (R460). -/
def execIncAbx (a : Word) (s : State) : StepResult := runInc 7 (.abx a) s

/-- 0xC6 (R461). -/
def execDecZp (n : Byte) (s : State) : StepResult := runDec 5 (.zp n) s
/-- 0xCE (R461). -/
def execDecAbs (a : Word) (s : State) : StepResult := runDec 6 (.abs a) s
/-- 0xD6 (R461). -/
def execDecZpx (n : Byte) (s : State) : StepResult := runDec 6 (.zpx n) s
/-- 0xDE (R461). -/
def execDecAbx (a : Word) (s : State) : StepResult := runDec 7 (.abx a) s

/-- 0xE8 (R462). -/
def execInx (s : State) : StepResult := runInx 2 s

/-- 0xC8 (R463). -/
def execIny (s : State) : StepResult := runIny 2 s

/-- 0xCA (R464). -/
def execDex (s : State) : StepResult := runDex 2 s

/-- 0x88 (R465). -/
def execDey (s : State) : StepResult := runDey 2 s

end Sys2Proof.Machine
end

