-- ==== Sys2Proof/Machine/Control.lean ====
section
/-! DEFINITION. Control transfer, flag and no-operation instructions (43_control_flags.md R550-R573).

PC stands past the instruction's last byte (R105, R321). For each mnemonic its meaning once; then one definition per row
of the opcode map. -/

namespace Sys2Proof.Machine

/-- BPL: branch if `P.N = 0` (R551). -/
def runBpl (cyc : Nat) (d : Int) (s : State) : StepResult := branch cyc (!s.n) d s

/-- BMI: branch if `P.N = 1` (R552). -/
def runBmi (cyc : Nat) (d : Int) (s : State) : StepResult := branch cyc s.n d s

/-- BVC: branch if `P.V = 0` (R553). -/
def runBvc (cyc : Nat) (d : Int) (s : State) : StepResult := branch cyc (!s.v) d s

/-- BVS: branch if `P.V = 1` (R554). -/
def runBvs (cyc : Nat) (d : Int) (s : State) : StepResult := branch cyc s.v d s

/-- BCC: branch if `P.C = 0` (R555). -/
def runBcc (cyc : Nat) (d : Int) (s : State) : StepResult := branch cyc (!s.c) d s

/-- BCS: branch if `P.C = 1` (R556). -/
def runBcs (cyc : Nat) (d : Int) (s : State) : StepResult := branch cyc s.c d s

/-- BNE: branch if `P.Z = 0` (R557). -/
def runBne (cyc : Nat) (d : Int) (s : State) : StepResult := branch cyc (!s.z) d s

/-- BEQ: branch if `P.Z = 1` (R558). -/
def runBeq (cyc : Nat) (d : Int) (s : State) : StepResult := branch cyc s.z d s

/-- JMP absolute: `PC <- hi : lo` (R559). -/
def runJmpAbs (cyc : Nat) (a : Word) (s : State) : StepResult := implied cyc (fun s => { s with pc := a }) s

/-- The address of the high byte of an indirect jump's target: the pointer's successor in the SAME page (R311). -/
def pageSuccessor (p : Word) : Word := hiLo (highByte p) (lowByte p + 1)

/-- JMP indirect: both pointer bytes are bus reads, low byte first (R311, R560). -/
def runJmpInd (cyc : Nat) (p : Word) (s : State) : StepResult :=
  let lo := busRead p s
  let hi := busRead (pageSuccessor p) lo.2
  .next (spend cyc { hi.2 with pc := hiLo hi.1 lo.1 })

/-- JSR: pushes `PC − 1`, the address of its own last byte, high byte first (R561). -/
def runJsr (cyc : Nat) (a : Word) (s : State) : StepResult :=
  implied cyc (fun s => { pushWord (s.pc - 1) s with pc := a }) s

/-- RTS: pulls the address and adds 1 (R562). -/
def runRts (cyc : Nat) (s : State) : StepResult :=
  implied cyc (fun s => { (pullWord s).2 with pc := (pullWord s).1 + 1 }) s

/-- RTI (R563). -/
def runRti (cyc : Nat) (s : State) : StepResult := implied cyc returnFromException s

/-- BRK: PC is past the signature byte; takes the exception through the IRQ/BRK vector with B = 1 pushed (R564). -/
def runBrk (cyc : Nat) (s : State) : StepResult :=
  implied cyc (fun s => takeException irqVector (pushedStatus s.p) s) s

/-- CLC (R565). -/
def runClc (cyc : Nat) (s : State) : StepResult := implied cyc (setC false) s

/-- SEC (R566). -/
def runSec (cyc : Nat) (s : State) : StepResult := implied cyc (setC true) s

/-- CLI (R567). -/
def runCli (cyc : Nat) (s : State) : StepResult := implied cyc (setI false) s

/-- SEI (R568). -/
def runSei (cyc : Nat) (s : State) : StepResult := implied cyc (setI true) s

/-- CLV (R569). -/
def runClv (cyc : Nat) (s : State) : StepResult := implied cyc (setV false) s

/-- CLD (R570). -/
def runCld (cyc : Nat) (s : State) : StepResult := implied cyc (setD false) s

/-- SED (R571). -/
def runSed (cyc : Nat) (s : State) : StepResult := implied cyc (setD true) s

/-- NOP, documented and undocumented implied (R572, R621). -/
def runNop (cyc : Nat) (s : State) : StepResult := implied cyc (fun s => s) s

/-- NOP with an immediate or memory operand: the operand is read and discarded (R622, R623, D6). -/
def runNopRead (cyc : Nat) (o : Source) (s : State) : StepResult := readWith cyc o (fun _ s => s) s

/-- 0x10 (R551). -/
def execBpl (d : Int) (s : State) : StepResult := runBpl 2 d s

/-- 0x30 (R552). -/
def execBmi (d : Int) (s : State) : StepResult := runBmi 2 d s

/-- 0x50 (R553). -/
def execBvc (d : Int) (s : State) : StepResult := runBvc 2 d s

/-- 0x70 (R554). -/
def execBvs (d : Int) (s : State) : StepResult := runBvs 2 d s

/-- 0x90 (R555). -/
def execBcc (d : Int) (s : State) : StepResult := runBcc 2 d s

/-- 0xB0 (R556). -/
def execBcs (d : Int) (s : State) : StepResult := runBcs 2 d s

/-- 0xD0 (R557). -/
def execBne (d : Int) (s : State) : StepResult := runBne 2 d s

/-- 0xF0 (R558). -/
def execBeq (d : Int) (s : State) : StepResult := runBeq 2 d s

/-- 0x4C (R559). -/
def execJmpAbs (a : Word) (s : State) : StepResult := runJmpAbs 3 a s
/-- 0x6C (R560). -/
def execJmpInd (a : Word) (s : State) : StepResult := runJmpInd 5 a s

/-- 0x20 (R561). -/
def execJsr (a : Word) (s : State) : StepResult := runJsr 6 a s

/-- 0x60 (R562). -/
def execRts (s : State) : StepResult := runRts 6 s

/-- 0x40 (R563). -/
def execRti (s : State) : StepResult := runRti 6 s

/-- 0x00 (R564). -/
def execBrk (_sig : Byte) (s : State) : StepResult := runBrk 7 s

/-- 0x18 (R565). -/
def execClc (s : State) : StepResult := runClc 2 s

/-- 0x38 (R566). -/
def execSec (s : State) : StepResult := runSec 2 s

/-- 0x58 (R567). -/
def execCli (s : State) : StepResult := runCli 2 s

/-- 0x78 (R568). -/
def execSei (s : State) : StepResult := runSei 2 s

/-- 0xB8 (R569). -/
def execClv (s : State) : StepResult := runClv 2 s

/-- 0xD8 (R570). -/
def execCld (s : State) : StepResult := runCld 2 s

/-- 0xF8 (R571). -/
def execSed (s : State) : StepResult := runSed 2 s

/-- 0x04 (R623). -/
def execNopZp04 (n : Byte) (s : State) : StepResult := runNopRead 3 (.mem (.zp n)) s
/-- 0x0C (R623). -/
def execNopAbs (a : Word) (s : State) : StepResult := runNopRead 4 (.mem (.abs a)) s
/-- 0x14 (R623). -/
def execNopZpx14 (n : Byte) (s : State) : StepResult := runNopRead 4 (.mem (.zpx n)) s
/-- 0x1A (R621). -/
def execNop1A (s : State) : StepResult := runNop 2 s
/-- 0x1C (R623). -/
def execNopAbx1C (a : Word) (s : State) : StepResult := runNopRead 4 (.mem (.abx a)) s
/-- 0x34 (R623). -/
def execNopZpx34 (n : Byte) (s : State) : StepResult := runNopRead 4 (.mem (.zpx n)) s
/-- 0x3A (R621). -/
def execNop3A (s : State) : StepResult := runNop 2 s
/-- 0x3C (R623). -/
def execNopAbx3C (a : Word) (s : State) : StepResult := runNopRead 4 (.mem (.abx a)) s
/-- 0x44 (R623). -/
def execNopZp44 (n : Byte) (s : State) : StepResult := runNopRead 3 (.mem (.zp n)) s
/-- 0x54 (R623). -/
def execNopZpx54 (n : Byte) (s : State) : StepResult := runNopRead 4 (.mem (.zpx n)) s
/-- 0x5A (R621). -/
def execNop5A (s : State) : StepResult := runNop 2 s
/-- 0x5C (R623). -/
def execNopAbx5C (a : Word) (s : State) : StepResult := runNopRead 4 (.mem (.abx a)) s
/-- 0x64 (R623). -/
def execNopZp64 (n : Byte) (s : State) : StepResult := runNopRead 3 (.mem (.zp n)) s
/-- 0x74 (R623). -/
def execNopZpx74 (n : Byte) (s : State) : StepResult := runNopRead 4 (.mem (.zpx n)) s
/-- 0x7A (R621). -/
def execNop7A (s : State) : StepResult := runNop 2 s
/-- 0x7C (R623). -/
def execNopAbx7C (a : Word) (s : State) : StepResult := runNopRead 4 (.mem (.abx a)) s
/-- 0x80 (R622). -/
def execNopImm80 (n : Byte) (s : State) : StepResult := runNopRead 2 (.imm n) s
/-- 0x82 (R622). -/
def execNopImm82 (n : Byte) (s : State) : StepResult := runNopRead 2 (.imm n) s
/-- 0x89 (R622). -/
def execNopImm89 (n : Byte) (s : State) : StepResult := runNopRead 2 (.imm n) s
/-- 0xC2 (R622). -/
def execNopImmC2 (n : Byte) (s : State) : StepResult := runNopRead 2 (.imm n) s
/-- 0xD4 (R623). -/
def execNopZpxD4 (n : Byte) (s : State) : StepResult := runNopRead 4 (.mem (.zpx n)) s
/-- 0xDA (R621). -/
def execNopDA (s : State) : StepResult := runNop 2 s
/-- 0xDC (R623). -/
def execNopAbxDC (a : Word) (s : State) : StepResult := runNopRead 4 (.mem (.abx a)) s
/-- 0xE2 (R622). -/
def execNopImmE2 (n : Byte) (s : State) : StepResult := runNopRead 2 (.imm n) s
/-- 0xEA (R572). -/
def execNop (s : State) : StepResult := runNop 2 s
/-- 0xF4 (R623). -/
def execNopZpxF4 (n : Byte) (s : State) : StepResult := runNopRead 4 (.mem (.zpx n)) s
/-- 0xFA (R621). -/
def execNopFA (s : State) : StepResult := runNop 2 s
/-- 0xFC (R623). -/
def execNopAbxFC (a : Word) (s : State) : StepResult := runNopRead 4 (.mem (.abx a)) s

end Sys2Proof.Machine
end

