-- ==== Sys2Proof/Machine/Illegal.lean ====
section
/-! DEFINITION. The undocumented opcodes but the NOPs, which are in Machine/Control.lean (44_illegal.md R600-R624).

For each mnemonic its meaning once, over its cycle count and operand; then one definition per row of the opcode map. -/

namespace Sys2Proof.Machine

/-- SLO: shift left, then OR into A (R601). -/
def runSlo (cyc : Nat) (m : MemForm) (s : State) : StepResult :=
  modify cyc m shlOp (fun r s => loadA (s.a ||| r) s) s

/-- RLA: rotate left, then AND into A (R602). -/
def runRla (cyc : Nat) (m : MemForm) (s : State) : StepResult :=
  modify cyc m rolOp (fun r s => loadA (s.a &&& r) s) s

/-- SRE: shift right, then EOR into A (R603). -/
def runSre (cyc : Nat) (m : MemForm) (s : State) : StepResult :=
  modify cyc m shrOp (fun r s => loadA (s.a ^^^ r) s) s

/-- RRA: rotate right, then add with the carry out of the rotate (R604). -/
def runRra (cyc : Nat) (m : MemForm) (s : State) : StepResult := modify cyc m rorOp addCore s

/-- DCP: decrement, then compare with A (R607). -/
def runDcp (cyc : Nat) (m : MemForm) (s : State) : StepResult := modify cyc m decOp (fun r s => compare s.a r s) s

/-- ISC: increment, then subtract from A with borrow (R608). -/
def runIsc (cyc : Nat) (m : MemForm) (s : State) : StepResult := modify cyc m incOp subCore s

/-- SAX: store `A AND X` (R605). -/
def runSax (cyc : Nat) (m : MemForm) (s : State) : StepResult := writeTo cyc m (s.a &&& s.x) s

/-- `A <- v; X <- v; SetZN(v)` (R606, R615). -/
def loadAX (v : Byte) (s : State) : State := setZN v { s with a := v, x := v }

/-- LAX (R606). -/
def runLax (cyc : Nat) (o : Source) (s : State) : StepResult := readWith cyc o loadAX s

/-- ANC: AND, then C is N (R609). -/
def runAnc (cyc : Nat) (o : Source) (s : State) : StepResult :=
  readWith cyc o (fun m s => setC ((s.a &&& m).getLsbD 7) (loadA (s.a &&& m) s)) s

/-- ALR: AND, then shift A right (R610). -/
def runAlr (cyc : Nat) (o : Source) (s : State) : StepResult :=
  readWith cyc o (fun m s => loadA ((s.a &&& m) >>> 1) (setC ((s.a &&& m).getLsbD 0) s)) s

/-- ARR: AND, then rotate A right; C is bit 6 and V is bit 6 XOR bit 5 of the result (R611). -/
def runArr (cyc : Nat) (o : Source) (s : State) : StepResult :=
  readWith cyc o (fun m s =>
    let r := setBit ((s.a &&& m) >>> 1) 7 s.c
    setV (r.getLsbD 6 ^^ r.getLsbD 5) (setC (r.getLsbD 6) (loadA r s))) s

/-- SBX: `X <- (A AND X) − M`, without borrow (R612). -/
def runSbx (cyc : Nat) (o : Source) (s : State) : StepResult :=
  readWith cyc o (fun m s => loadX ((s.a &&& s.x) - m) (setC (decide (m.toNat ≤ (s.a &&& s.x).toNat)) s)) s

/-- ANE: `A <- (A OR MAGIC_ANE) AND X AND M` (R614, D4). -/
def runAne (cyc : Nat) (o : Source) (s : State) : StepResult :=
  readWith cyc o (fun m s => loadA ((s.a ||| s.cfg.magicAne) &&& s.x &&& m) s) s

/-- LXA: `v <- (A OR MAGIC_LXA) AND M` into A and X (R615, D4). -/
def runLxa (cyc : Nat) (o : Source) (s : State) : StepResult :=
  readWith cyc o (fun m s => loadAX ((s.a ||| s.cfg.magicLxa) &&& m) s) s

/-- LAS: `v <- M AND SP` into A, X and SP (R616). -/
def runLas (cyc : Nat) (o : Source) (s : State) : StepResult :=
  readWith cyc o (fun m s => loadAX (m &&& s.sp) { s with sp := m &&& s.sp }) s

/-- `reg AND ((H + 1) AND 0xFF)`, the byte SHA, SHX, SHY and TAS store (R617). -/
def highMasked (reg : Byte) (e : EffAddr) : Byte := reg &&& (highByte e.base + 1)

/-- The address they store it to: on a page cross `SH_PAGECROSS` decides (R617, D5). -/
def highStoreAddr (mode : ShPageCross) (reg : Byte) (e : EffAddr) : Word :=
  if e.crossed = true ∧ mode = .replaceHigh then hiLo (highMasked reg e) (lowByte e.addr) else e.addr

/-- The store shared by SHA, SHX, SHY and TAS (R617-R620). -/
def storeHigh (cyc : Nat) (m : MemForm) (reg : Byte) (s : State) : StepResult :=
  storeAt cyc (highStoreAddr s.cfg.shPageCross reg (effAddr m s)) (highMasked reg (effAddr m s)) s

/-- SHA (R617). -/
def runSha (cyc : Nat) (m : MemForm) (s : State) : StepResult := storeHigh cyc m (s.a &&& s.x) s

/-- SHX (R618). -/
def runShx (cyc : Nat) (m : MemForm) (s : State) : StepResult := storeHigh cyc m s.x s

/-- SHY (R619). -/
def runShy (cyc : Nat) (m : MemForm) (s : State) : StepResult := storeHigh cyc m s.y s

/-- TAS: `SP <- A AND X`, then the store of SP (R620). -/
def runTas (cyc : Nat) (m : MemForm) (s : State) : StepResult :=
  storeHigh cyc m (s.a &&& s.x) { s with sp := s.a &&& s.x }

/-- JAM: the fatal fault is recorded; no cycle is spent (R624, R700). -/
def runJam (op : Byte) (s : State) : StepResult := .next (raiseFatal op s)

/-- 0x03 (R601). -/
def execSloIzx (n : Byte) (s : State) : StepResult := runSlo 8 (.izx n) s
/-- 0x07 (R601). -/
def execSloZp (n : Byte) (s : State) : StepResult := runSlo 5 (.zp n) s
/-- 0x0F (R601). -/
def execSloAbs (a : Word) (s : State) : StepResult := runSlo 6 (.abs a) s
/-- 0x13 (R601). -/
def execSloIzy (n : Byte) (s : State) : StepResult := runSlo 8 (.izy n) s
/-- 0x17 (R601). -/
def execSloZpx (n : Byte) (s : State) : StepResult := runSlo 6 (.zpx n) s
/-- 0x1B (R601). -/
def execSloAby (a : Word) (s : State) : StepResult := runSlo 7 (.aby a) s
/-- 0x1F (R601). -/
def execSloAbx (a : Word) (s : State) : StepResult := runSlo 7 (.abx a) s

/-- 0x23 (R602). -/
def execRlaIzx (n : Byte) (s : State) : StepResult := runRla 8 (.izx n) s
/-- 0x27 (R602). -/
def execRlaZp (n : Byte) (s : State) : StepResult := runRla 5 (.zp n) s
/-- 0x2F (R602). -/
def execRlaAbs (a : Word) (s : State) : StepResult := runRla 6 (.abs a) s
/-- 0x33 (R602). -/
def execRlaIzy (n : Byte) (s : State) : StepResult := runRla 8 (.izy n) s
/-- 0x37 (R602). -/
def execRlaZpx (n : Byte) (s : State) : StepResult := runRla 6 (.zpx n) s
/-- 0x3B (R602). -/
def execRlaAby (a : Word) (s : State) : StepResult := runRla 7 (.aby a) s
/-- 0x3F (R602). -/
def execRlaAbx (a : Word) (s : State) : StepResult := runRla 7 (.abx a) s

/-- 0x43 (R603). -/
def execSreIzx (n : Byte) (s : State) : StepResult := runSre 8 (.izx n) s
/-- 0x47 (R603). -/
def execSreZp (n : Byte) (s : State) : StepResult := runSre 5 (.zp n) s
/-- 0x4F (R603). -/
def execSreAbs (a : Word) (s : State) : StepResult := runSre 6 (.abs a) s
/-- 0x53 (R603). -/
def execSreIzy (n : Byte) (s : State) : StepResult := runSre 8 (.izy n) s
/-- 0x57 (R603). -/
def execSreZpx (n : Byte) (s : State) : StepResult := runSre 6 (.zpx n) s
/-- 0x5B (R603). -/
def execSreAby (a : Word) (s : State) : StepResult := runSre 7 (.aby a) s
/-- 0x5F (R603). -/
def execSreAbx (a : Word) (s : State) : StepResult := runSre 7 (.abx a) s

/-- 0x63 (R604). -/
def execRraIzx (n : Byte) (s : State) : StepResult := runRra 8 (.izx n) s
/-- 0x67 (R604). -/
def execRraZp (n : Byte) (s : State) : StepResult := runRra 5 (.zp n) s
/-- 0x6F (R604). -/
def execRraAbs (a : Word) (s : State) : StepResult := runRra 6 (.abs a) s
/-- 0x73 (R604). -/
def execRraIzy (n : Byte) (s : State) : StepResult := runRra 8 (.izy n) s
/-- 0x77 (R604). -/
def execRraZpx (n : Byte) (s : State) : StepResult := runRra 6 (.zpx n) s
/-- 0x7B (R604). -/
def execRraAby (a : Word) (s : State) : StepResult := runRra 7 (.aby a) s
/-- 0x7F (R604). -/
def execRraAbx (a : Word) (s : State) : StepResult := runRra 7 (.abx a) s

/-- 0xC3 (R607). -/
def execDcpIzx (n : Byte) (s : State) : StepResult := runDcp 8 (.izx n) s
/-- 0xC7 (R607). -/
def execDcpZp (n : Byte) (s : State) : StepResult := runDcp 5 (.zp n) s
/-- 0xCF (R607). -/
def execDcpAbs (a : Word) (s : State) : StepResult := runDcp 6 (.abs a) s
/-- 0xD3 (R607). -/
def execDcpIzy (n : Byte) (s : State) : StepResult := runDcp 8 (.izy n) s
/-- 0xD7 (R607). -/
def execDcpZpx (n : Byte) (s : State) : StepResult := runDcp 6 (.zpx n) s
/-- 0xDB (R607). -/
def execDcpAby (a : Word) (s : State) : StepResult := runDcp 7 (.aby a) s
/-- 0xDF (R607). -/
def execDcpAbx (a : Word) (s : State) : StepResult := runDcp 7 (.abx a) s

/-- 0xE3 (R608). -/
def execIscIzx (n : Byte) (s : State) : StepResult := runIsc 8 (.izx n) s
/-- 0xE7 (R608). -/
def execIscZp (n : Byte) (s : State) : StepResult := runIsc 5 (.zp n) s
/-- 0xEF (R608). -/
def execIscAbs (a : Word) (s : State) : StepResult := runIsc 6 (.abs a) s
/-- 0xF3 (R608). -/
def execIscIzy (n : Byte) (s : State) : StepResult := runIsc 8 (.izy n) s
/-- 0xF7 (R608). -/
def execIscZpx (n : Byte) (s : State) : StepResult := runIsc 6 (.zpx n) s
/-- 0xFB (R608). -/
def execIscAby (a : Word) (s : State) : StepResult := runIsc 7 (.aby a) s
/-- 0xFF (R608). -/
def execIscAbx (a : Word) (s : State) : StepResult := runIsc 7 (.abx a) s

/-- 0x83 (R605). -/
def execSaxIzx (n : Byte) (s : State) : StepResult := runSax 6 (.izx n) s
/-- 0x87 (R605). -/
def execSaxZp (n : Byte) (s : State) : StepResult := runSax 3 (.zp n) s
/-- 0x8F (R605). -/
def execSaxAbs (a : Word) (s : State) : StepResult := runSax 4 (.abs a) s
/-- 0x97 (R605). -/
def execSaxZpy (n : Byte) (s : State) : StepResult := runSax 4 (.zpy n) s

/-- 0xA3 (R606). -/
def execLaxIzx (n : Byte) (s : State) : StepResult := runLax 6 (.mem (.izx n)) s
/-- 0xA7 (R606). -/
def execLaxZp (n : Byte) (s : State) : StepResult := runLax 3 (.mem (.zp n)) s
/-- 0xAF (R606). -/
def execLaxAbs (a : Word) (s : State) : StepResult := runLax 4 (.mem (.abs a)) s
/-- 0xB3 (R606). -/
def execLaxIzy (n : Byte) (s : State) : StepResult := runLax 5 (.mem (.izy n)) s
/-- 0xB7 (R606). -/
def execLaxZpy (n : Byte) (s : State) : StepResult := runLax 4 (.mem (.zpy n)) s
/-- 0xBF (R606). -/
def execLaxAby (a : Word) (s : State) : StepResult := runLax 4 (.mem (.aby a)) s

/-- 0x0B (R609). -/
def execAncImm0B (n : Byte) (s : State) : StepResult := runAnc 2 (.imm n) s
/-- 0x2B (R609). -/
def execAncImm2B (n : Byte) (s : State) : StepResult := runAnc 2 (.imm n) s

/-- 0x4B (R610). -/
def execAlrImm (n : Byte) (s : State) : StepResult := runAlr 2 (.imm n) s

/-- 0x6B (R611). -/
def execArrImm (n : Byte) (s : State) : StepResult := runArr 2 (.imm n) s

/-- 0xCB (R612). -/
def execSbxImm (n : Byte) (s : State) : StepResult := runSbx 2 (.imm n) s

/-- 0x8B (R614). -/
def execAneImm (n : Byte) (s : State) : StepResult := runAne 2 (.imm n) s

/-- 0xAB (R615). -/
def execLxaImm (n : Byte) (s : State) : StepResult := runLxa 2 (.imm n) s

/-- 0xBB (R616). -/
def execLasAby (a : Word) (s : State) : StepResult := runLas 4 (.mem (.aby a)) s

/-- 0x93 (R617). -/
def execShaIzy (n : Byte) (s : State) : StepResult := runSha 6 (.izy n) s
/-- 0x9F (R617). -/
def execShaAby (a : Word) (s : State) : StepResult := runSha 5 (.aby a) s

/-- 0x9E (R618). -/
def execShxAby (a : Word) (s : State) : StepResult := runShx 5 (.aby a) s

/-- 0x9C (R619). -/
def execShyAbx (a : Word) (s : State) : StepResult := runShy 5 (.abx a) s

/-- 0x9B (R620). -/
def execTasAby (a : Word) (s : State) : StepResult := runTas 5 (.aby a) s

/-- 0x02 (R624). -/
def execJam02 (s : State) : StepResult := runJam 0x02 s
/-- 0x12 (R624). -/
def execJam12 (s : State) : StepResult := runJam 0x12 s
/-- 0x22 (R624). -/
def execJam22 (s : State) : StepResult := runJam 0x22 s
/-- 0x32 (R624). -/
def execJam32 (s : State) : StepResult := runJam 0x32 s
/-- 0x42 (R624). -/
def execJam42 (s : State) : StepResult := runJam 0x42 s
/-- 0x52 (R624). -/
def execJam52 (s : State) : StepResult := runJam 0x52 s
/-- 0x62 (R624). -/
def execJam62 (s : State) : StepResult := runJam 0x62 s
/-- 0x72 (R624). -/
def execJam72 (s : State) : StepResult := runJam 0x72 s
/-- 0x92 (R624). -/
def execJam92 (s : State) : StepResult := runJam 0x92 s
/-- 0xB2 (R624). -/
def execJamB2 (s : State) : StepResult := runJam 0xB2 s
/-- 0xD2 (R624). -/
def execJamD2 (s : State) : StepResult := runJam 0xD2 s
/-- 0xF2 (R624). -/
def execJamF2 (s : State) : StepResult := runJam 0xF2 s

end Sys2Proof.Machine
end

