-- ==== Sys2Proof/Machine/LoadStore.lean ====
section
/-! DEFINITION. Loads, stores, register transfers and stack instructions (40_load_store_transfer.md R400-R416).

For each mnemonic its meaning once, over its cycle count and operand; then one definition per row of the opcode map. -/

namespace Sys2Proof.Machine

/-- LDA: `A <- M; SetZN(A)` (R401). -/
def runLda (cyc : Nat) (o : Source) (s : State) : StepResult := readWith cyc o loadA s

/-- LDX: `X <- M; SetZN(X)` (R402). -/
def runLdx (cyc : Nat) (o : Source) (s : State) : StepResult := readWith cyc o loadX s

/-- LDY: `Y <- M; SetZN(Y)` (R403). -/
def runLdy (cyc : Nat) (o : Source) (s : State) : StepResult := readWith cyc o loadY s

/-- STA: `Write(EA, A)` (R404). -/
def runSta (cyc : Nat) (m : MemForm) (s : State) : StepResult := writeTo cyc m s.a s

/-- STX: `Write(EA, X)` (R405). -/
def runStx (cyc : Nat) (m : MemForm) (s : State) : StepResult := writeTo cyc m s.x s

/-- STY: `Write(EA, Y)` (R406). -/
def runSty (cyc : Nat) (m : MemForm) (s : State) : StepResult := writeTo cyc m s.y s

/-- TAX: `X <- A; SetZN(X)` (R407). -/
def runTax (cyc : Nat) (s : State) : StepResult := implied cyc (fun s => loadX s.a s) s

/-- TAY: `Y <- A; SetZN(Y)` (R408). -/
def runTay (cyc : Nat) (s : State) : StepResult := implied cyc (fun s => loadY s.a s) s

/-- TXA: `A <- X; SetZN(A)` (R409). -/
def runTxa (cyc : Nat) (s : State) : StepResult := implied cyc (fun s => loadA s.x s) s

/-- TYA: `A <- Y; SetZN(A)` (R410). -/
def runTya (cyc : Nat) (s : State) : StepResult := implied cyc (fun s => loadA s.y s) s

/-- TSX: `X <- SP; SetZN(X)` (R411). -/
def runTsx (cyc : Nat) (s : State) : StepResult := implied cyc (fun s => loadX s.sp s) s

/-- TXS: `SP <- X`, no flag (R412). -/
def runTxs (cyc : Nat) (s : State) : StepResult := implied cyc (fun s => { s with sp := s.x }) s

/-- PHA: `Push(A)` (R413). -/
def runPha (cyc : Nat) (s : State) : StepResult := implied cyc (fun s => push s.a s) s

/-- PHP: `Push(P OR 0x30)` (R414). -/
def runPhp (cyc : Nat) (s : State) : StepResult := implied cyc (fun s => push (pushedStatus s.p) s) s

/-- PLA: `A <- Pull(); SetZN(A)` (R415). -/
def runPla (cyc : Nat) (s : State) : StepResult := implied cyc (fun s => loadA (pull s).1 (pull s).2) s

/-- PLP: `P <- (Pull() AND 0xCF) OR 0x20` (R416). -/
def runPlp (cyc : Nat) (s : State) : StepResult :=
  implied cyc (fun s => { (pull s).2 with p := pulledStatus (pull s).1 }) s

/-- 0xA1 (R401). -/
def execLdaIzx (n : Byte) (s : State) : StepResult := runLda 6 (.mem (.izx n)) s
/-- 0xA5 (R401). -/
def execLdaZp (n : Byte) (s : State) : StepResult := runLda 3 (.mem (.zp n)) s
/-- 0xA9 (R401). -/
def execLdaImm (n : Byte) (s : State) : StepResult := runLda 2 (.imm n) s
/-- 0xAD (R401). -/
def execLdaAbs (a : Word) (s : State) : StepResult := runLda 4 (.mem (.abs a)) s
/-- 0xB1 (R401). -/
def execLdaIzy (n : Byte) (s : State) : StepResult := runLda 5 (.mem (.izy n)) s
/-- 0xB5 (R401). -/
def execLdaZpx (n : Byte) (s : State) : StepResult := runLda 4 (.mem (.zpx n)) s
/-- 0xB9 (R401). -/
def execLdaAby (a : Word) (s : State) : StepResult := runLda 4 (.mem (.aby a)) s
/-- 0xBD (R401). -/
def execLdaAbx (a : Word) (s : State) : StepResult := runLda 4 (.mem (.abx a)) s

/-- 0xA2 (R402). -/
def execLdxImm (n : Byte) (s : State) : StepResult := runLdx 2 (.imm n) s
/-- 0xA6 (R402). -/
def execLdxZp (n : Byte) (s : State) : StepResult := runLdx 3 (.mem (.zp n)) s
/-- 0xAE (R402). -/
def execLdxAbs (a : Word) (s : State) : StepResult := runLdx 4 (.mem (.abs a)) s
/-- 0xB6 (R402). -/
def execLdxZpy (n : Byte) (s : State) : StepResult := runLdx 4 (.mem (.zpy n)) s
/-- 0xBE (R402). -/
def execLdxAby (a : Word) (s : State) : StepResult := runLdx 4 (.mem (.aby a)) s

/-- 0xA0 (R403). -/
def execLdyImm (n : Byte) (s : State) : StepResult := runLdy 2 (.imm n) s
/-- 0xA4 (R403). -/
def execLdyZp (n : Byte) (s : State) : StepResult := runLdy 3 (.mem (.zp n)) s
/-- 0xAC (R403). -/
def execLdyAbs (a : Word) (s : State) : StepResult := runLdy 4 (.mem (.abs a)) s
/-- 0xB4 (R403). -/
def execLdyZpx (n : Byte) (s : State) : StepResult := runLdy 4 (.mem (.zpx n)) s
/-- 0xBC (R403). -/
def execLdyAbx (a : Word) (s : State) : StepResult := runLdy 4 (.mem (.abx a)) s

/-- 0x81 (R404). -/
def execStaIzx (n : Byte) (s : State) : StepResult := runSta 6 (.izx n) s
/-- 0x85 (R404). -/
def execStaZp (n : Byte) (s : State) : StepResult := runSta 3 (.zp n) s
/-- 0x8D (R404). -/
def execStaAbs (a : Word) (s : State) : StepResult := runSta 4 (.abs a) s
/-- 0x91 (R404). -/
def execStaIzy (n : Byte) (s : State) : StepResult := runSta 6 (.izy n) s
/-- 0x95 (R404). -/
def execStaZpx (n : Byte) (s : State) : StepResult := runSta 4 (.zpx n) s
/-- 0x99 (R404). -/
def execStaAby (a : Word) (s : State) : StepResult := runSta 5 (.aby a) s
/-- 0x9D (R404). -/
def execStaAbx (a : Word) (s : State) : StepResult := runSta 5 (.abx a) s

/-- 0x86 (R405). -/
def execStxZp (n : Byte) (s : State) : StepResult := runStx 3 (.zp n) s
/-- 0x8E (R405). -/
def execStxAbs (a : Word) (s : State) : StepResult := runStx 4 (.abs a) s
/-- 0x96 (R405). -/
def execStxZpy (n : Byte) (s : State) : StepResult := runStx 4 (.zpy n) s

/-- 0x84 (R406). -/
def execStyZp (n : Byte) (s : State) : StepResult := runSty 3 (.zp n) s
/-- 0x8C (R406). -/
def execStyAbs (a : Word) (s : State) : StepResult := runSty 4 (.abs a) s
/-- 0x94 (R406). -/
def execStyZpx (n : Byte) (s : State) : StepResult := runSty 4 (.zpx n) s

/-- 0xAA (R407). -/
def execTax (s : State) : StepResult := runTax 2 s

/-- 0xA8 (R408). -/
def execTay (s : State) : StepResult := runTay 2 s

/-- 0x8A (R409). -/
def execTxa (s : State) : StepResult := runTxa 2 s

/-- 0x98 (R410). -/
def execTya (s : State) : StepResult := runTya 2 s

/-- 0xBA (R411). -/
def execTsx (s : State) : StepResult := runTsx 2 s

/-- 0x9A (R412). -/
def execTxs (s : State) : StepResult := runTxs 2 s

/-- 0x48 (R413). -/
def execPha (s : State) : StepResult := runPha 3 s

/-- 0x08 (R414). -/
def execPhp (s : State) : StepResult := runPhp 3 s

/-- 0x68 (R415). -/
def execPla (s : State) : StepResult := runPla 4 s

/-- 0x28 (R416). -/
def execPlp (s : State) : StepResult := runPlp 4 s

end Sys2Proof.Machine
end

