-- ==== Sys2Proof/Machine/Shift.lean ====
section
/-! DEFINITION. Shift and rotate instructions (42_shift_rotate.md R500-R504).

For each mnemonic its memory meaning and its accumulator meaning once; then one definition per row of the opcode map. -/

namespace Sys2Proof.Machine

/-- ASL of memory (R501). -/
def runAsl (cyc : Nat) (m : MemForm) (s : State) : StepResult := modify cyc m shlOp setZN s

/-- ASL of A (R501). -/
def runAslA (cyc : Nat) (s : State) : StepResult := modifyA cyc shlOp s

/-- LSR of memory (R502). -/
def runLsr (cyc : Nat) (m : MemForm) (s : State) : StepResult := modify cyc m shrOp setZN s

/-- LSR of A (R502). -/
def runLsrA (cyc : Nat) (s : State) : StepResult := modifyA cyc shrOp s

/-- ROL of memory (R503). -/
def runRol (cyc : Nat) (m : MemForm) (s : State) : StepResult := modify cyc m rolOp setZN s

/-- ROL of A (R503). -/
def runRolA (cyc : Nat) (s : State) : StepResult := modifyA cyc rolOp s

/-- ROR of memory (R504). -/
def runRor (cyc : Nat) (m : MemForm) (s : State) : StepResult := modify cyc m rorOp setZN s

/-- ROR of A (R504). -/
def runRorA (cyc : Nat) (s : State) : StepResult := modifyA cyc rorOp s

/-- 0x06 (R501). -/
def execAslZp (n : Byte) (s : State) : StepResult := runAsl 5 (.zp n) s
/-- 0x0A (R501). -/
def execAslAcc (s : State) : StepResult := runAslA 2 s
/-- 0x0E (R501). -/
def execAslAbs (a : Word) (s : State) : StepResult := runAsl 6 (.abs a) s
/-- 0x16 (R501). -/
def execAslZpx (n : Byte) (s : State) : StepResult := runAsl 6 (.zpx n) s
/-- 0x1E (R501). -/
def execAslAbx (a : Word) (s : State) : StepResult := runAsl 7 (.abx a) s

/-- 0x46 (R502). -/
def execLsrZp (n : Byte) (s : State) : StepResult := runLsr 5 (.zp n) s
/-- 0x4A (R502). -/
def execLsrAcc (s : State) : StepResult := runLsrA 2 s
/-- 0x4E (R502). -/
def execLsrAbs (a : Word) (s : State) : StepResult := runLsr 6 (.abs a) s
/-- 0x56 (R502). -/
def execLsrZpx (n : Byte) (s : State) : StepResult := runLsr 6 (.zpx n) s
/-- 0x5E (R502). -/
def execLsrAbx (a : Word) (s : State) : StepResult := runLsr 7 (.abx a) s

/-- 0x26 (R503). -/
def execRolZp (n : Byte) (s : State) : StepResult := runRol 5 (.zp n) s
/-- 0x2A (R503). -/
def execRolAcc (s : State) : StepResult := runRolA 2 s
/-- 0x2E (R503). -/
def execRolAbs (a : Word) (s : State) : StepResult := runRol 6 (.abs a) s
/-- 0x36 (R503). -/
def execRolZpx (n : Byte) (s : State) : StepResult := runRol 6 (.zpx n) s
/-- 0x3E (R503). -/
def execRolAbx (a : Word) (s : State) : StepResult := runRol 7 (.abx a) s

/-- 0x66 (R504). -/
def execRorZp (n : Byte) (s : State) : StepResult := runRor 5 (.zp n) s
/-- 0x6A (R504). -/
def execRorAcc (s : State) : StepResult := runRorA 2 s
/-- 0x6E (R504). -/
def execRorAbs (a : Word) (s : State) : StepResult := runRor 6 (.abs a) s
/-- 0x76 (R504). -/
def execRorZpx (n : Byte) (s : State) : StepResult := runRor 6 (.zpx n) s
/-- 0x7E (R504). -/
def execRorAbx (a : Word) (s : State) : StepResult := runRor 7 (.abx a) s

end Sys2Proof.Machine
end

