-- ==== Sys2Proof/Machine/PpuTick.lean ====
section
/-! DEFINITION. The PPU's dot: scrolling, the background and sprite pixels, VBlank (61_ppu.md R820-R862). -/

namespace Sys2Proof.Machine

/-- `IncCoarseX(a)` (R826). -/
def incCoarseX (a : BitVec 15) : BitVec 15 :=
  if a &&& 0x001F = 31 then (a &&& 0x7FE0) ^^^ 0x0400 else a + 1

/-- `IncY(a)` (R827). -/
def incY (a : BitVec 15) : BitVec 15 :=
  if a &&& 0x7000 ≠ 0x7000 then a + 0x1000
  else
    let a := a &&& 0x0FFF
    let cy := (a >>> 5) &&& 31
    if cy = 29 then ((a ^^^ 0x0800) &&& 0x7C1F)
    else if cy = 31 then a &&& 0x7C1F
    else (a &&& 0x7C1F) ||| ((cy + 1) <<< 5)

/-- `CopyH(v, t)` (R828). -/
def copyH (v t : BitVec 15) : BitVec 15 := (v &&& 0x7BE0) ||| (t &&& 0x041F)

/-- `CopyV(v, t)` (R828). -/
def copyV (v t : BitVec 15) : BitVec 15 := (v &&& 0x041F) ||| (t &&& 0x7BE0)

/-- The address a background pixel is fetched with and its column in that tile (R840). -/
def bgSource (p : Ppu) (px : Nat) : BitVec 15 × Nat :=
  let off := px % 8 + p.x.toNat
  if 8 ≤ off then (incCoarseX p.v, off - 8) else (p.v, off)

/-- The address of the nametable byte (R841). -/
def ntAddr (a : BitVec 15) : Nat := (0x2000 ||| (a &&& 0x0FFF)).toNat

/-- The address of the attribute byte (R842). -/
def attrAddr (a : BitVec 15) : Nat :=
  (0x23C0 ||| (a &&& 0x0C00) ||| ((a >>> 4) &&& 0x38) ||| ((a >>> 2) &&& 0x07)).toNat

/-- The shift of the palette select in the attribute byte (R842). -/
def attrShift (a : BitVec 15) : Nat := (((a >>> 4) &&& 4) ||| (a &&& 2)).toNat

/-- The palette select of the background pixel: `bgPal` (R842). -/
def bgPalette (c : Cartridge) (p : Ppu) (px : Nat) : Nat :=
  let a := (bgSource p px).1
  (ppuRead c p (attrAddr a)).toNat / 2 ^ attrShift a % 4

/-- Bit b of the low plane and of the high plane as a number 0..3 (R843, R851). -/
def patternPixel (lo hi : Byte) (b : Nat) : Nat := bit (lo.getLsbD b) + 2 * bit (hi.getLsbD b)

/-- The pattern bits of the background pixel (R840, R841, R843). -/
def bgPattern (c : Cartridge) (p : Ppu) (px : Nat) : Nat :=
  let (a, col) := bgSource p px
  let tile := (ppuRead c p (ntAddr a)).toNat
  let fineY := a.toNat / 0x1000 % 8
  let base := if p.ctrl.getLsbD 4 then 0x1000 else 0
  let lo := ppuRead c p (base + tile * 16 + fineY)
  let hi := ppuRead c p (base + tile * 16 + fineY + 8)
  patternPixel lo hi (7 - col)

/-- `bgPix` with the layer switch and the left-8 mask (R844). -/
def bgPixel (c : Cartridge) (p : Ppu) (px : Nat) : Nat :=
  if !p.mask.getLsbD 3 || (decide (px < 8) && !p.mask.getLsbD 1) then 0 else bgPattern c p px

/-- The sprite height (R116, R850). -/
def Ppu.spriteHeight (p : Ppu) : Nat := if p.ctrl.getLsbD 5 then 16 else 8

/-- The pattern address of row `row` of a sprite (R850). -/
def spriteAddr (p : Ppu) (tile attr : Byte) (row : Nat) : Nat :=
  let h := p.spriteHeight
  let r := if attr.getLsbD 7 then h - 1 - row else row
  if h = 8 then (if p.ctrl.getLsbD 3 then 0x1000 else 0) + tile.toNat * 16 + r
  else
    let t2 := (tile &&& 0xFE).toNat + (if 8 ≤ r then 1 else 0)
    tile.toNat % 2 * 0x1000 + t2 * 16 + r % 8

/-- One OAM entry of the evaluation (R850): it joins the set, sets OVF when the set is full, or does not cover y. -/
def evalSprite (limit : Nat) (c : Cartridge) (y k : Nat) (p : Ppu) : Ppu :=
  let top := (Cells.read p.oam (4 * k)).toNat + 1
  let tile := Cells.read p.oam (4 * k + 1)
  let attr := Cells.read p.oam (4 * k + 2)
  let x := Cells.read p.oam (4 * k + 3)
  if top ≤ y ∧ y - top < p.spriteHeight then
    if p.sprLine.length < limit then
      let addr := spriteAddr p tile attr (y - top)
      { p with sprLine := p.sprLine ++
          [{ index := k, x := x, attr := attr, lo := ppuRead c p addr, hi := ppuRead c p (addr + 8) }] }
    else { p with ovf := true }
  else p

/-- OAM entries k, k+1, … for n entries, in order (R850). -/
def evalSprites (limit : Nat) (c : Cartridge) (y : Nat) : Nat → Nat → Ppu → Ppu
  | 0, _, p => p
  | n + 1, k, p => evalSprites limit c y n (k + 1) (evalSprite limit c y k p)

/-- Sprite evaluation for visible line y; empty, with OVF unchanged, when rendering is disabled (R850). -/
def spriteEvaluation (limit : Nat) (c : Cartridge) (y : Nat) (p : Ppu) : Ppu :=
  if p.rendering then evalSprites limit c y 64 0 { p with sprLine := [] } else { p with sprLine := [] }

/-- A sprite pixel: `spr = (p, palette, behind, is entry 0)` (R851). -/
structure SpritePixel where
  pix : Nat
  palette : Nat
  behind : Bool
  isZero : Bool
  deriving DecidableEq, Repr

/-- The first opaque sprite of the set at column px (R851). -/
def spriteScan (px : Nat) : List SpriteRec → Option SpritePixel
  | [] => none
  | r :: rest =>
    let dx := px - r.x.toNat
    if r.x.toNat ≤ px ∧ dx < 8 then
      let pix := patternPixel r.lo r.hi (if r.attr.getLsbD 6 then dx else 7 - dx)
      if pix = 0 then spriteScan px rest
      else some {
        pix := pix, palette := r.attr.toNat % 4, behind := r.attr.getLsbD 5, isZero := r.index == 0 }
    else spriteScan px rest

/-- The sprite pixel with the layer switch and the left-8 mask (R851). -/
def spritePixel (p : Ppu) (px : Nat) : Option SpritePixel :=
  if !p.mask.getLsbD 4 || (decide (px < 8) && !p.mask.getLsbD 2) then none else spriteScan px p.sprLine

/-- The palette index of the composed pixel (R852). -/
def composeIndex (bgPal bgPix : Nat) (spr : Option SpritePixel) : Nat :=
  match spr with
  | none => if bgPix = 0 then 0 else bgPal * 4 + bgPix
  | some q =>
    if bgPix = 0 then 0x10 + q.palette * 4 + q.pix
    else if q.behind then bgPal * 4 + bgPix
    else 0x10 + q.palette * 4 + q.pix

/-- The colour index of palette entry i, under greyscale (R852, R854). -/
def colour (c : Cartridge) (p : Ppu) (i : Nat) : BitVec 6 :=
  let v := ppuRead c p (0x3F00 + i) &&& 0x3F
  (if p.mask.getLsbD 0 then v &&& 0x30 else v).setWidth 6

/-- The sprite-0 hit conditions at column px (R853). -/
def spriteZeroHit (p : Ppu) (px bgPix : Nat) (spr : Option SpritePixel) : Bool :=
  match spr with
  | none => false
  | some q =>
    q.isZero && decide (bgPix ≠ 0) && p.mask.getLsbD 3 && p.mask.getLsbD 4 && decide (px ≠ 255)
      && !(decide (px < 8) && (!p.mask.getLsbD 1 || !p.mask.getLsbD 2))

/-- The pixel of visible line y, column px: the composed pixel, or the backdrop when rendering is disabled
(R852-R855). -/
def drawPixel (c : Cartridge) (y px : Nat) (p : Ppu) : Ppu :=
  if p.rendering then
    let bgPix := bgPixel c p px
    let spr := spritePixel p px
    let i := composeIndex (bgPalette c p px) bgPix spr
    { p with
      fb := Cells.write p.fb (256 * y + px) (colour c p i)
      s0 := p.s0 || spriteZeroHit p px bgPix spr }
  else { p with fb := Cells.write p.fb (256 * y + px) (colour c p 0) }

/-- The scroll updates of v at dot d of a visible or pre-render line (R824). -/
def scrollUpdate (line d : Nat) (p : Ppu) : Ppu :=
  if !p.rendering then p
  else if d = 256 then { p with v := incY (incCoarseX p.v) }
  else if 8 ≤ d ∧ d < 256 ∧ d % 8 = 0 then { p with v := incCoarseX p.v }
  else if d = 257 then { p with v := copyH p.v p.t }
  else if line = 261 ∧ 280 ≤ d ∧ d ≤ 304 then { p with v := copyV p.v p.t }
  else p

/-- VBlank start, at dot (241, 1) (R822). -/
def vblankStart (p : Ppu) : Ppu :=
  { p with vbl := true, nmiRequest := p.nmiRequest || p.nmie, frameComplete := true }

/-- Pre-render clear, at dot (261, 1) (R823). -/
def preRenderClear (p : Ppu) : Ppu := { p with vbl := false, s0 := false, ovf := false }

/-- The mapper's scanline clock: dot 260 of lines 0-239 and 261 with rendering enabled (R825). -/
def scanlineClock (s : State) : State :=
  if s.ppu.dot = 260 ∧ s.ppu.rendering = true then
    { s with cart := { s.cart with mapper := s.cart.mapper.clockIrq s.cfg.mmc3IrqZero } }
  else s

/-- The PPU's own part of a dot of a visible line: evaluation at dot 1, the pixel, the scroll update, in this order
(R821). -/
def visibleDot (limit : Nat) (c : Cartridge) (p : Ppu) : Ppu :=
  let y := p.scanline
  let d := p.dot
  let p := if d = 1 then spriteEvaluation limit c y p else p
  let p := if 1 ≤ d ∧ d ≤ 256 then drawPixel c y (d - 1) p else p
  scrollUpdate y d p

/-- The PPU's own part of a dot of the pre-render line (R821, R823, R824). -/
def preRenderDot (p : Ppu) : Ppu :=
  let p' := if p.dot = 1 then preRenderClear p else p
  scrollUpdate 261 p.dot p'

/-- Processes the dot `(scanline, dot)` (R820-R825). -/
def processDot (s : State) : State :=
  if s.ppu.scanline < 240 then
    scanlineClock { s with ppu := visibleDot s.cfg.spriteLimit s.cart s.ppu }
  else if s.ppu.scanline = 241 then
    if s.ppu.dot = 1 then { s with ppu := vblankStart s.ppu } else s
  else if s.ppu.scanline = 261 then scanlineClock { s with ppu := preRenderDot s.ppu }
  else s

/-- The advance to the next dot: 262 lines of 341 dots (R820). -/
def advanceDot (p : Ppu) : Ppu :=
  if p.dot + 1 = 341 then
    if p.scanline + 1 = 262 then { p with dot := 0, scanline := 0, frame := p.frame + 1 }
    else { p with dot := 0, scanline := p.scanline + 1 }
  else { p with dot := p.dot + 1 }

/-- One PPU `tick()` (R820). -/
def ppuTick (s : State) : State :=
  let s := processDot s
  { s with ppu := advanceDot s.ppu }

end Sys2Proof.Machine
end

