-- ==== Sys2Proof/Machine/System.lean ====
section
/-! DEFINITION. The system step's parts (64_driver_host.md R1100): fetching an instruction (00_scope.md R18,
30_encoding.md R321), the catch-up of the PPU and the APU, the interrupt poll (60_exceptions.md R715), and where the
host's test word is stored. Step.lean only calls them. -/

namespace Sys2Proof.Machine

/-! ### Fetch -/

/-- `FetchByte()` (R18): a read like any other, with its side effects (R214). -/
def fetchByte (s : State) : Byte × State :=
  let r := busRead s.pc s
  (r.1, { r.2 with pc := s.pc + 1 })

/-- Fetches the instruction at PC: the opcode byte, then as many operand bytes as its row calls for (R300, R321). PC
ends past the last byte. -/
def fetchInstr (s : State) : Instr × State :=
  let op := fetchByte s
  match decodeRow op.1 with
  | .none i => (i, op.2)
  | .byte f =>
    let b := fetchByte op.2
    (f b.1, b.2)
  | .word f =>
    let lo := fetchByte op.2
    let hi := fetchByte lo.2
    (f (hiLo hi.1 lo.1), hi.2)

/-! ### Catch-up and poll -/

/-- One CPU cycle of catch-up: three PPU ticks, then one APU tick (R1100, D46). -/
def cycleTick (s : State) : State := apuTick (ppuTick (ppuTick (ppuTick s)))

/-- `CatchUp(k)` (R1100). -/
def catchUp : Nat → State → State
  | 0, s => s
  | k + 1, s => catchUp k (cycleTick s)

/-- `irqLine = apu.frameIrq OR mapper.hasIRQ()` (R713). -/
def State.irqLine (s : State) : Bool := s.apu.frameIrq || s.cart.mapper.irqPending

/-- The interrupt poll: NMI first, then IRQ if I is 0; at most one entry, then its own 7 cycles (R715, R716). -/
def poll (s : State) : State :=
  if s.ppu.nmiRequest then
    catchUp 7 (enter nmiVector { s with ppu := { s.ppu with nmiRequest := false } })
  else if s.irqLine && !s.i then catchUp 7 (enter irqVector s)
  else s

/-- What follows the CPU step that took s to t: nothing if it faulted, else the catch-up of the cycles it returned and
the poll (R1100). -/
def complete (s t : State) : State := if t.fault.isSome then t else poll (catchUp (t.cycles - s.cycles) t)

/-! ### Placing an instruction where the next fetch reads it -/

/-- Whether a CPU address is a plain byte of internal RAM or of the cartridge (R201, R1006). -/
def isStorable (a : Word) : Bool := decide (a.toNat < 0x2000) || decide (0x6000 ≤ a.toNat)

/-- Puts a byte where a read of `a` finds it, in RAM, PRG-RAM or PRG-ROM: what the loader does, not a bus write. -/
def placeByte (a : Word) (b : Byte) (s : State) : State :=
  let n := a.toNat
  if n < 0x2000 then { s with ram := Cells.write s.ram (n % 0x800) b }
  else if n < 0x8000 then
    { s with cart := { s.cart with prgRam := Cells.write s.cart.prgRam (n - 0x6000) b } }
  else
    { s with cart := { s.cart with prg := Cells.write s.cart.prg (s.cart.prgOffset n % s.cart.prgSize) b } }

/-- Puts bytes at consecutive addresses. -/
def placeBytes : Word → List Byte → State → State
  | _, [], s => s
  | a, b :: rest, s => placeBytes (a + 1) rest (placeByte a b s)

/-- The address test code is placed at when PC is not at three plain bytes (a page of internal RAM). -/
def scratchAddr : Word := 0x0300

/-- Places the bytes at PC, or at `scratchAddr` with PC moved there when PC is at a device or at nothing; the fault
record is cleared, so that the next step runs (log entry 8). -/
def placeAtFetch (bytes : List Byte) (s : State) : State :=
  let pc := if isStorable s.pc && isStorable (s.pc + 1) && isStorable (s.pc + 2) then s.pc else scratchAddr
  placeBytes pc bytes { s with pc := pc, fault := none }

end Sys2Proof.Machine
end

