-- ==== Sys2Proof/Machine/Step.lean ====
section
/-! DEFINITION. One system step (64_driver_host.md R1100), and the placing of an instruction where the next step fetches
it. Everything they call is in the files beside this one. -/

namespace Sys2Proof.Machine

/-- `SystemStep()` (R1100): no step exists for a faulted machine; else the fetched instruction, the catch-up and the
poll. -/
def step (s : State) : StepResult :=
  match s.fault with
  | some f => .fault (.fatal f.opcode f.pc)
  | none =>
    match exec (fetchInstr s).1 (fetchInstr s).2 with
    | .next t => .next (complete s t)
    | .fault e => .fault e
    | .refused e => .refused e

/-- The state with the instruction of table bits w stored where `step` fetches its next instruction (log entry 8). -/
def State.withFetchWord (s : State) (nbits w : Nat) : State := placeAtFetch (tableBytes nbits w) s

end Sys2Proof.Machine
end

