-- ==== Sys2Proof/Machine/Loader.lean ====
section
/-! DEFINITION. What the host does to the machine between system steps (64_driver_host.md R1103-R1130): load and
power-on (63_cartridge_mapper.md R1000-R1004), reset (70_reset_and_hazards.md R1200), the button mask, draining a frame
or samples, and the observer's record. -/

namespace Sys2Proof.Machine

/-- A load-time error; it makes no machine (R701, R1003). -/
inductive LoadError where
  /-- L1: too short for a header, wrong magic, or no PRG bank. -/
  | badHeader
  /-- L2: shorter than the header says. -/
  | truncated
  /-- L3: not one of the four mapper numbers. -/
  | unsupportedMapper (number : Nat)
  deriving DecidableEq, Repr

/-- A memory whose cell i, from `start` on, holds the i-th listed value, in canonical form. -/
def Cells.ofValues {w : Nat} : Nat → List (BitVec w) → Cells w
  | _, [] => []
  | start, v :: rest => if v = 0 then Cells.ofValues (start + 1) rest else (start, v) :: Cells.ofValues (start + 1) rest

/-- `INIT_MEM` (R114, R125, R127, R128, R133, D28): the contents of every memory at power-on, cell 0 first; a cell past
the end of its list is 0. -/
structure InitMem where
  ram : List Byte
  nt : List Byte
  pal : List Byte
  oam : List Byte
  chrRam : List Byte
  prgRam : List Byte
  fb : List (BitVec 6)
  deriving DecidableEq, Repr

/-- The mapper number of a header: the high nibble is ignored if any of bytes 12-15 is not 0 (R1000). -/
def headerMapper (header : List Byte) : Nat :=
  let byteAt := fun i => header.getD i 0
  let hi := if byteAt 12 = 0 ∧ byteAt 13 = 0 ∧ byteAt 14 = 0 ∧ byteAt 15 = 0 then (byteAt 7).toNat / 16 else 0
  16 * hi + (byteAt 6).toNat / 16

/-- The header's mirroring bit: byte 6 bit 0 (R1000). -/
def headerMirror (header : List Byte) : Bool := (header.getD 6 0).getLsbD 0

/-- Load and construct: the header checks in their order, the payload, the mapper at its construction values
(R1000-R1004). -/
def loadCartridge (img : List Byte) (init : InitMem) : Except LoadError Cartridge :=
  let header := img.take 16
  let prgBanks := (img.getD 4 0).toNat
  let chrBanks := (img.getD 5 0).toNat
  if img.length < 16 ∨ img.take 4 ≠ [0x4E, 0x45, 0x53, 0x1A] ∨ prgBanks = 0 then .error .badHeader
  else if img.length < 16 + 16384 * prgBanks + 8192 * chrBanks then .error .truncated
  else
    match Mapper.construct (headerMapper header) (headerMirror header) with
    | none => .error (.unsupportedMapper (headerMapper header))
    | some mapper => .ok {
        prgBanks := prgBanks
        prg := Cells.ofValues 0 ((img.drop 16).take (16384 * prgBanks))
        chrBanks := chrBanks
        chr :=
          if chrBanks = 0 then Cells.ofValues 0 (init.chrRam.take 8192)
          else Cells.ofValues 0 ((img.drop (16 + 16384 * prgBanks)).take (8192 * chrBanks))
        hdrMirror := headerMirror header
        prgRam := Cells.ofValues 0 (init.prgRam.take 8192)
        mapper := mapper }

/-- The registers a reset writes, on a machine that keeps its memories, cartridge and buttons (R1200, R1202, R136). The
vector is read through the mapper. -/
def resetRegisters (s : State) : State :=
  { s with
    a := 0
    x := 0
    y := 0
    sp := 0xFD
    p := 0x24
    pc := hiLo (s.cart.read 0xFFFD) (s.cart.read 0xFFFC)
    cycles := 0
    ctl := { s.ctl with strobe := false, shiftReg := 0, shiftIndex := 0 }
    ppu := Ppu.resetWith s.ppu.oam s.ppu.nt s.ppu.pal s.ppu.fb
    apu := Apu.reset }

/-- `Reset()`, "defined only when `fault = none`" (R1200, D3). -/
def resetMachine (s : State) : Option State := if s.fault.isSome then none else some (resetRegisters s)

/-- The power-on sequence: load, construct, reset (R1110). -/
def powerOn (img : List Byte) (init : InitMem) (cfg : Config) : Except LoadError State :=
  match loadCartridge img init with
  | .error e => .error e
  | .ok cart => .ok (resetRegisters { State.reset with
      ram := Cells.ofValues 0 (init.ram.take 2048)
      ppu := Ppu.resetWith (Cells.ofValues 0 (init.oam.take 256)) (Cells.ofValues 0 (init.nt.take 2048))
        (Cells.ofValues 0 (init.pal.take 32)) (Cells.ofValues 0 (init.fb.take 61440))
      cart := cart
      cfg := cfg })

/-- An act of the host on a machine that has not failed. "No later CPU step, interrupt entry, reset or driver action
changes" a faulted machine (R700), so there the act leaves everything as it is. -/
def unlessFaulted (act : State → State) (s : State) : State := if s.fault.isSome then s else act s

/-- The host writes the button mask (R1120). After the fatal fault the write changes nothing (R700); R1120 and R1123 do
not say whether the host may still make it, and that it is allowed and without effect is a DESIGN CHOICE (log entry 18). -/
def hostSetButtons (mask : Byte) : State → State :=
  unlessFaulted fun s => { s with ctl := { s.ctl with buttons := mask } }

/-- The host drains a completed frame: it gets the framebuffer, and the flag is cleared (R1121). After the
fatal fault the flag stays (R700); R1121 and R1123 do not say whether the host still gets the frame, and that it gets
none is a DESIGN CHOICE (log entry 18). -/
def hostDrainFrame (s : State) : Option (Cells 6 × State) :=
  if s.fault.isNone && s.ppu.frameComplete then
    some (s.ppu.fb, { s with ppu := { s.ppu with frameComplete := false } })
  else none

/-- The sink takes the samples emitted so far, oldest first (R1122). After the fatal fault the list stays as it is, to
be read from the state at the end of the run (R700, R1124); that the sink is handed nothing then is a DESIGN CHOICE (log
entry 18). -/
def hostDrainAudio (s : State) : Option (List Rat × State) :=
  if s.fault.isSome then none else some (s.samples.reverse, { s with samples := [] })

/-- The record an observer may receive per system step, as it stood before the step (R1130, D62). -/
structure TraceRecord where
  pc : Word
  opcode : Byte
  a : Byte
  x : Byte
  y : Byte
  p : Byte
  sp : Byte
  cycles : Nat
  deriving DecidableEq, Repr

/-- The observer's record of the step about to run (R1130). -/
def State.traceRecord (s : State) : TraceRecord where
  pc := s.pc
  opcode := (busRead s.pc s).1
  a := s.a
  x := s.x
  y := s.y
  p := s.p
  sp := s.sp
  cycles := s.cycles

end Sys2Proof.Machine
end

