-- ==== Sys2Proof/Machine/Run.lean ====
section
/-! DEFINITION. A run (64_driver_host.md R1124): the power-on sequence, then system steps with the host's acts between
them (R1103, R1120-R1123), up to the first of its ends. -/

namespace Sys2Proof.Machine

/-- What the host may do between two system steps (R1123). Loading another image makes a new machine (`powerOn`), not a
further act on this one. -/
inductive HostAct where
  | setButtons (mask : Byte)
  | drainFrame
  | drainAudio
  | reset
  deriving DecidableEq, Repr

/-- The end the host chooses, with its K: (b) K system steps, or (c) the K-th setting of `frameComplete` (R1124). -/
inductive Limit where
  | steps (k : Nat)
  | frames (k : Nat)
  deriving DecidableEq, Repr

/-- A run at a system-step boundary: the machine, and what R1124 counts and collects beside it. -/
structure Run where
  state : State
  /-- System steps completed without fault since power-on. -/
  steps : Nat
  /-- Settings of `frameComplete` since power-on. -/
  frames : Nat
  /-- The frames the host has drained, oldest first. -/
  drained : List (Cells 6)
  /-- The samples the sink has taken out of the state, oldest first. -/
  taken : List Rat
  deriving DecidableEq, Repr

/-- How a run has ended: (a) by the fatal fault, "an end of failure, never a successful end", or at its limit (R1124). -/
inductive RunEnd where
  | failure (record : FaultRecord)
  | reached
  deriving DecidableEq, Repr

/-- A run right after power-on. -/
def Run.start (s : State) : Run := { state := s, steps := 0, frames := 0, drained := [], taken := [] }

/-- "The sequence of samples emitted" (R1124): those taken, then those still listed in the state. -/
def Run.emitted (r : Run) : List Rat := r.taken ++ r.state.samples.reverse

/-- How many times `frameComplete` has been set since the last reset: once in each frame the PPU has left, and once in
the current one when dot (241, 1) has been processed (R123, R124, R861; DESIGN CHOICE, log entry 19). -/
def Ppu.frameSettings (p : Ppu) : Nat :=
  p.frame + bit (decide (241 < p.scanline) || (p.scanline == 241 && decide (1 < p.dot)))

/-- One system step of a run (R1100). The step that records a fault is not one that completed without fault. -/
def Run.step (r : Run) : Run :=
  match Sys2Proof.Machine.step r.state with
  | .next t =>
    { r with
      state := t
      steps := r.steps + bit t.fault.isNone
      frames := r.frames + (t.ppu.frameSettings - r.state.ppu.frameSettings) }
  | .fault _ => r
  | .refused _ => r

/-- One act of the host. On a faulted machine none has an effect (R700, R1200; log entry 18). -/
def Run.act (r : Run) : HostAct → Run
  | .setButtons mask => { r with state := hostSetButtons mask r.state }
  | .drainFrame =>
    match hostDrainFrame r.state with
    | some d => { r with state := d.2, drained := r.drained ++ [d.1] }
    | none => r
  | .drainAudio =>
    match hostDrainAudio r.state with
    | some d => { r with state := d.2, taken := r.taken ++ d.1 }
    | none => r
  | .reset =>
    match resetMachine r.state with
    | some t => { r with state := t }
    | none => r

/-- Whether a run has come to its limit (R1124 (b), (c)). -/
def Limit.reachedBy (limit : Limit) (r : Run) : Bool :=
  match limit with
  | .steps k => decide (k ≤ r.steps)
  | .frames k => decide (k ≤ r.frames)

/-- The end the run has come to, if any (R1124); a faulted run has failed, whatever its counts. -/
def Run.ending (limit : Limit) (r : Run) : Option RunEnd :=
  match r.state.fault with
  | some f => some (.failure f)
  | none => if limit.reachedBy r then some .reached else none

/-- Goes on with a run until its first end: before each system step the host does the next list of acts (R1103). A plan
shorter than the run leaves it without an end (DESIGN CHOICE, log entry 19). -/
def runFrom (limit : Limit) : List (List HostAct) → Run → Run
  | [], r => r
  | acts :: later, r =>
    if (r.ending limit).isSome then r else runFrom limit later (acts.foldl Run.act r).step

/-- A run: the power-on sequence, then system steps (R1110, R1124). -/
def runMachine (img : List Byte) (init : InitMem) (cfg : Config) (limit : Limit) (plan : List (List HostAct)) :
    Except LoadError Run :=
  match powerOn img init cfg with
  | .error e => .error e
  | .ok s => .ok (runFrom limit plan (Run.start s))

end Sys2Proof.Machine
end

