-- ==== Sys2Proof/Safety.lean ====
section
/-! DEFINITION. The terms claims are stated in: addressing modes, flags by name, what an instruction leaves alone, and
the invariants a run keeps. -/

namespace Sys2Proof.Machine

/-! ### Modes and flags by name -/

/-- The addressing modes of R301, by their ids. -/
inductive Mode where
  | imp | acc | imm | zp | zpx | zpy | abs | abx | aby | rel | izx | izy | ind
  deriving DecidableEq, Repr

/-- The mode of an operand form; BRK's signature byte belongs to no mode ("BRK imp", R300, R325). -/
def modeOf : Form → Mode
  | .implied => .imp
  | .accumulator => .acc
  | .signature _ => .imp
  | .operand (.imm _) => .imm
  | .operand (.mem (.zp _)) => .zp
  | .operand (.mem (.zpx _)) => .zpx
  | .operand (.mem (.zpy _)) => .zpy
  | .operand (.mem (.abs _)) => .abs
  | .operand (.mem (.abx _)) => .abx
  | .operand (.mem (.aby _)) => .aby
  | .operand (.mem (.izx _)) => .izx
  | .operand (.mem (.izy _)) => .izy
  | .relative _ => .rel
  | .indirect _ => .ind

/-- The opcode values and modes of a mnemonic are exactly those listed. -/
def HasForms (m : Mnemonic) (forms : List (Byte × Mode)) : Prop :=
  ∀ i : Instr, i.mnemonic = m ↔ (i.opcode, modeOf i.form) ∈ forms

/-- The bits of P (R104). -/
inductive Flag where
  | c | z | i | d | b | u | v | n
  deriving DecidableEq, Repr

/-- The bit position of a flag (R104). -/
def Flag.pos : Flag → Nat
  | .c => 0
  | .z => 1
  | .i => 2
  | .d => 3
  | .b => 4
  | .u => 5
  | .v => 6
  | .n => 7

/-- From status byte `old` to `new` the listed flags take the listed values, and every other flag keeps its value. -/
def FlagsAfter (old new : Byte) (changes : List (Flag × Bool)) : Prop :=
  ∀ f : Flag, new.getLsbD f.pos = (changes.lookup f).getD (old.getLsbD f.pos)

/-- What `SetZN(r)` writes (R16). -/
def zn (r : Byte) : List (Flag × Bool) := [(.z, decide (r = 0)), (.n, r.getLsbD 7)]

/-! ### What an instruction leaves alone -/

/-- A, X, Y and SP are as they were. -/
def SameRegisters (s t : State) : Prop := t.a = s.a ∧ t.x = s.x ∧ t.y = s.y ∧ t.sp = s.sp

/-- Everything outside the CPU's registers and cycle counter is as it was: the fault record, internal RAM, the
controller port, the PPU, the APU, the cartridge, the parameters, the draws and the samples. -/
def SameOutside (s t : State) : Prop :=
  t.fault = s.fault ∧ t.ram = s.ram ∧ t.ctl = s.ctl ∧ t.ppu = s.ppu ∧ t.apu = s.apu ∧ t.cart = s.cart ∧
    t.cfg = s.cfg ∧ t.draws = s.draws ∧ t.samples = s.samples

/-- The memory cell behind a CPU address: the four RAM windows are one memory (R203). -/
def cellOf (a : Word) : Nat := if a.toNat < 0x2000 then a.toNat % 0x800 else a.toNat

/-- Whether a store to b can change what a read of a gives: the same cell, or a mapper register over the ROM window. -/
def touches (b a : Word) : Bool := cellOf a == cellOf b || (decide (0x8000 ≤ b.toNat) && decide (0x8000 ≤ a.toNat))

/-- The addresses an instruction stores to, in order, computed from the state it starts in (R320). -/
def storedAddresses (i : Instr) (s : State) : List Word :=
  match i.mnemonic, i.form with
  | .sha, .operand (.mem m) => [highStoreAddr s.cfg.shPageCross (s.a &&& s.x) (effAddr m s)]
  | .tas, .operand (.mem m) => [highStoreAddr s.cfg.shPageCross (s.a &&& s.x) (effAddr m s)]
  | .shx, .operand (.mem m) => [highStoreAddr s.cfg.shPageCross s.x (effAddr m s)]
  | .shy, .operand (.mem m) => [highStoreAddr s.cfg.shPageCross s.y (effAddr m s)]
  | .pha, _ => [stackAddr s.sp]
  | .php, _ => [stackAddr s.sp]
  | .jsr, _ => [stackAddr s.sp, stackAddr (s.sp - 1)]
  | .brk, _ => [stackAddr s.sp, stackAddr (s.sp - 1), stackAddr (s.sp - 2)]
  | m, .operand (.mem e) =>
    if m ∈ [.sta, .stx, .sty, .sax, .inc, .dec, .asl, .lsr, .rol, .ror, .slo, .rla, .sre, .rra, .dcp, .isc]
    then [(effAddr e s).addr] else []
  | _, _ => []

/-! ### Invariants -/

/-- Every memory is in canonical form and within its size (R114, R125, R127, R128, R133). -/
def State.memoriesOk (s : State) : Bool :=
  Cells.ok 2048 s.ram && Cells.ok 8192 s.cart.prgRam && Cells.ok s.cart.prgSize s.cart.prg &&
  Cells.ok s.cart.chrSize s.cart.chr && Cells.ok 2048 s.ppu.nt && Cells.ok 32 s.ppu.pal &&
  Cells.ok 256 s.ppu.oam && Cells.ok 61440 s.ppu.fb

/-- The live B is 0 and U is 1 (R113). -/
def State.statusOk (s : State) : Bool := !s.p.getLsbD 4 && s.p.getLsbD 5

/-- The PPU's position is a dot of the frame, and the sprite set is within its limit (R123, R126). -/
def State.ppuOk (s : State) : Bool :=
  decide (s.ppu.scanline ≤ 261) && decide (s.ppu.dot ≤ 340) && decide (s.ppu.sprLine.length ≤ s.cfg.spriteLimit)

/-- The frame sequencer's count is below its period (R731, R940), the noise timer below the longest period, and the LFSR is not stuck
at 0 (R131). -/
def State.apuOk (s : State) : Bool :=
  decide (s.apu.fsCount < if s.apu.fsMode then 37282 else 29830) && decide (s.apu.noise.timer.toNat ≤ 4067) &&
  s.apu.noise.lfsr != 0

/-- At most 8 bits have been read since the latch (R115), and the serial port of MMC1 holds at most 4 bits (R134). -/
def State.countsOk (s : State) : Bool :=
  decide (s.ctl.shiftIndex ≤ 8) &&
  match s.cart.mapper with
  | .mmc1 m => decide (m.count ≤ 4)
  | _ => true

/-- The invariant of a run. -/
def State.Inv (s : State) : Prop :=
  s.memoriesOk = true ∧ s.statusOk = true ∧ s.ppuOk = true ∧ s.apuOk = true ∧ s.countsOk = true

/-- "The PPU has taken exactly 3 × cycles ticks and the APU exactly cycles ticks since reset" (R1101), read from their
own counters. -/
def State.LockStep (s : State) : Prop :=
  s.apu.cycle = s.cycles ∧ 89342 * s.ppu.frame + 341 * s.ppu.scanline + s.ppu.dot = 3 * s.cycles

/-- A run that has not failed: no fatal fault is recorded (R1124). -/
def State.Running (s : State) : Prop := s.fault = none

end Sys2Proof.Machine
end

