-- ==== Sys2Proof/Certificates/Slice0/Obligations.lean ====
section
/-! DEFINITION. The statements for the provers.

The results of the instructions are stated over every form a mnemonic has (`HasForms` names its opcode values and
modes) and every state: each says that `exec` answers a next state, what it holds, and that everything else is as it
was. The registers, the status bits and the cycle counter are named one by one; `SameOutside` says the rest. -/

open Sys2Proof Sys2Proof.Machine

namespace Sys2Proof.Machine

/-! ### The shapes of the instruction statements -/

/-- A read-class instruction (R314, R320, R331): it completes; PC stays past the instruction; the base cycles and the
page-cross cycle are spent; outside the CPU only the one read has acted; `post` says the rest of the operand's value,
the state before and the state after. -/
def ReadsWith (m : Mnemonic) (forms : List (Byte × Mode)) (post : Byte → State → State → Prop) : Prop :=
  HasForms m forms ∧
    ∀ (i : Instr) (s : State), i.mnemonic = m →
      ∃ o t, i.form = .operand o ∧ exec i s = .next t ∧ t.pc = s.pc ∧
        t.cycles = s.cycles + i.cycles + pagePenalty o s ∧ SameOutside (readSource o s).2 t ∧
        post (readSource o s).1 s t

/-- The cycles OAM DMA adds to an instruction that stores to `addr` and would end at cycle n (R221). -/
def dmaStall (addr : Word) (n : Nat) : Nat := if addr = 0x4014 then 513 + n % 2 else 0

/-- A write-class instruction (R314, R320): it completes; the one bus write of `value` at the effective address acts
outside the CPU, and nothing is read there; no register and no flag changes. -/
def WritesWith (m : Mnemonic) (forms : List (Byte × Mode)) (value : State → Byte) : Prop :=
  HasForms m forms ∧
    ∀ (i : Instr) (s : State), i.mnemonic = m →
      ∃ e t, i.form = .operand (.mem e) ∧ exec i s = .next t ∧ SameRegisters s t ∧ t.p = s.p ∧ t.pc = s.pc ∧
        t.cycles = s.cycles + i.cycles + dmaStall (effAddr e s).addr (s.cycles + i.cycles) ∧
        SameOutside (busWrite (effAddr e s).addr (value s) s) t

/-- The memory forms of a read-modify-write instruction (R320, R600): one read at the effective address, one write there
of the result of the byte read and the old carry; `post` says the rest of the byte read, the result, the state before
and the state after. -/
def ModifiesWith (m : Mnemonic) (result : Nat → Nat → Nat) (post : Byte → Byte → State → State → Prop) : Prop :=
  ∀ (i : Instr) (e : MemForm) (s : State), i.mnemonic = m → i.form = .operand (.mem e) →
    let read := busRead (effAddr e s).addr s
    let r := BitVec.ofNat 8 (result read.1.toNat (bit s.c))
    ∃ t, exec i s = .next t ∧ t.x = s.x ∧ t.y = s.y ∧ t.sp = s.sp ∧ t.pc = s.pc ∧
      t.cycles = s.cycles + i.cycles + dmaStall (effAddr e s).addr (s.cycles + i.cycles) ∧
      SameOutside (busWrite (effAddr e s).addr r read.2) t ∧ post read.1 r s t

/-- An instruction without bus access (R320): it completes in its base cycles and changes nothing outside the CPU. -/
def RunsInside (m : Mnemonic) (form : Form) (post : State → State → Prop) : Prop :=
  ∀ (i : Instr) (s : State), i.mnemonic = m → i.form = form →
    ∃ t, exec i s = .next t ∧ t.pc = s.pc ∧ t.cycles = s.cycles + i.cycles ∧ SameOutside s t ∧ post s t

/-- The implied instruction of one opcode. -/
def ImpliedWith (m : Mnemonic) (opcode : Byte) (post : State → State → Prop) : Prop :=
  HasForms m [(opcode, .imp)] ∧ (∀ i : Instr, i.mnemonic = m → i.form = .implied) ∧ RunsInside m .implied post

/-- A conditional branch (R550, R308, R332): on the condition PC is the next instruction's address plus the signed
displacement, modulo 65536, in 3 cycles or 4 across a page; else nothing changes but the 2 cycles. -/
def BranchesWhen (m : Mnemonic) (opcode : Byte) (cond : State → Bool) : Prop :=
  HasForms m [(opcode, .rel)] ∧
    ∀ (i : Instr) (s : State), i.mnemonic = m →
      ∃ d t, i.form = .relative d ∧ exec i s = .next t ∧ SameRegisters s t ∧ t.p = s.p ∧ SameOutside s t ∧
        if cond s then
          (t.pc.toNat : Int) = (s.pc.toNat + d) % 65536 ∧
            t.cycles = s.cycles + if s.pc.toNat / 256 = t.pc.toNat / 256 then 3 else 4
        else t.pc = s.pc ∧ t.cycles = s.cycles + 2

/-- The k-th byte above the stack pointer, in page 1 with wrap: what the k-th pull gives (R15, R206). -/
def stacked (s : State) (k : Nat) : Byte := Cells.read s.ram (0x100 + (s.sp.toNat + k) % 256)

/-- The listed bytes, first to last, have been pushed from s to t: each lies one below the one before, SP is below the
last, and every other byte of internal RAM is as it was (R15). -/
def Pushed (bytes : List Byte) (s t : State) : Prop :=
  t.sp = s.sp - BitVec.ofNat 8 bytes.length ∧
    (∀ k (h : k < bytes.length), Cells.read t.ram (0x100 + (s.sp - BitVec.ofNat 8 k).toNat) = bytes[k]) ∧
    ∀ n, (∀ k < bytes.length, n ≠ 0x100 + (s.sp - BitVec.ofNat 8 k).toNat) →
      Cells.read t.ram n = Cells.read s.ram n

/-- The eight read modes of LDA and its like, with the opcode values given in the order imm, zp, zpx, abs, abx, aby, izx, izy. -/
def eightModes (imm zp zpx abs abx aby izx izy : Byte) : List (Byte × Mode) :=
  [(imm, .imm), (zp, .zp), (zpx, .zpx), (abs, .abs), (abx, .abx), (aby, .aby), (izx, .izx), (izy, .izy)]

/-- The seven modes of the combined opcodes, in the order izx, zp, abs, izy, zpx, aby, abx (R601). -/
def sevenModes (izx zp abs izy zpx aby abx : Byte) : List (Byte × Mode) :=
  [(izx, .izx), (zp, .zp), (abs, .abs), (izy, .izy), (zpx, .zpx), (aby, .aby), (abx, .abx)]

/-- The five modes of a shift, in the order acc, zp, zpx, abs, abx (R501). -/
def shiftModes (acc zp zpx abs abx : Byte) : List (Byte × Mode) :=
  [(acc, .acc), (zp, .zp), (zpx, .zpx), (abs, .abs), (abx, .abx)]

/-- The opcode values and modes of the NOPs (R572, R621-R623). -/
def nopForms : List (Byte × Mode) :=
  let forms (mode : Mode) (ops : List Byte) : List (Byte × Mode) := ops.map fun b => (b, mode)
  forms .imp [0xEA, 0x1A, 0x3A, 0x5A, 0x7A, 0xDA, 0xFA] ++ forms .imm [0x80, 0x82, 0x89, 0xC2, 0xE2] ++
    forms .zp [0x04, 0x44, 0x64] ++ forms .zpx [0x14, 0x34, 0x54, 0x74, 0xD4, 0xF4] ++ forms .abs [0x0C] ++
    forms .abx [0x1C, 0x3C, 0x5C, 0x7C, 0xDC, 0xFC]

/-- X, Y and SP are as they were. -/
def SameIndex (s t : State) : Prop := t.x = s.x ∧ t.y = s.y ∧ t.sp = s.sp

/-- A shift (R500-R504): in accumulator mode on A without bus access, in a memory mode one read and one write; C from the
operand, Z and N from the result, V, I and D unchanged. -/
def ShiftsWith (m : Mnemonic) (forms : List (Byte × Mode)) (result : Nat → Nat → Nat) (carry : Nat → Bool) : Prop :=
  HasForms m forms ∧
    (∀ i : Instr, i.mnemonic = m → i.form = .accumulator ∨ ∃ e, i.form = .operand (.mem e)) ∧
    RunsInside m .accumulator (fun s t =>
      t.a = BitVec.ofNat 8 (result s.a.toNat (bit s.c)) ∧ SameIndex s t ∧
        FlagsAfter s.p t.p ((.c, carry s.a.toNat) :: zn t.a)) ∧
    ModifiesWith m result (fun old r s t => t.a = s.a ∧ FlagsAfter s.p t.p ((.c, carry old.toNat) :: zn r))

/-- A + M + carry, read as two's complement: whether it leaves the range of a signed byte (R447). -/
def signedOverflow (a m : Byte) (carry : Nat) : Bool :=
  decide (a.toInt + m.toInt + carry < -128 ∨ 127 < a.toInt + m.toInt + carry)

/-- A − M − borrow, read as two's complement: whether it leaves the range of a signed byte (R452). -/
def signedUnderflow (a m : Byte) (borrow : Nat) : Bool :=
  decide (a.toInt - m.toInt - borrow < -128 ∨ 127 < a.toInt - m.toInt - borrow)

/-- A, X, Y, SP and P after adding m with carry into the accumulator of s (R447). -/
def AddsInto (m : Byte) (c : Nat) (s t : State) : Prop :=
  t.a = BitVec.ofNat 8 (s.a.toNat + m.toNat + c) ∧ SameIndex s t ∧
    FlagsAfter s.p t.p ((.c, decide (256 ≤ s.a.toNat + m.toNat + c)) :: (.v, signedOverflow s.a m c) :: zn t.a)

/-- A, X, Y, SP and P after subtracting m and the borrow from the accumulator of s: C = 1 means no borrow (R452). -/
def SubtractsFrom (m : Byte) (borrow : Nat) (s t : State) : Prop :=
  t.a = BitVec.ofInt 8 (s.a.toNat - m.toNat - borrow) ∧ SameIndex s t ∧
    FlagsAfter s.p t.p
      ((.c, decide (m.toNat + borrow ≤ s.a.toNat)) :: (.v, signedUnderflow s.a m borrow) :: zn t.a)

/-- P after comparing a register's value with m (R448). -/
def Compared (reg m : Byte) (s t : State) : Prop :=
  FlagsAfter s.p t.p ((.c, decide (m.toNat ≤ reg.toNat)) :: zn (BitVec.ofInt 8 (reg.toNat - m.toNat)))

/-- The instructions that read a byte, change it and write it back (R320). -/
def modifying : List Mnemonic := [.asl, .lsr, .rol, .ror, .inc, .dec, .slo, .rla, .sre, .rra, .dcp, .isc]

/-- The instructions that store a byte without reading its address (R320). -/
def storing : List Mnemonic := [.sta, .stx, .sty, .sax, .sha, .shx, .shy, .tas]

/-- The base cycle counts in the cells of R325's map, by mode; a JAM opcode has none. -/
def baseCycles (m : Mnemonic) : Mode → Nat
  | .imm | .acc | .rel => 2
  | .ind => 5
  | .zp => if m ∈ modifying then 5 else 3
  | .zpx | .zpy => if m ∈ modifying then 6 else 4
  | .abs => if m = .jmp then 3 else if m ∈ .jsr :: modifying then 6 else 4
  | .abx | .aby => if m ∈ modifying then 7 else if m ∈ storing then 5 else 4
  | .izx => if m ∈ modifying then 8 else 6
  | .izy => if m ∈ modifying then 8 else if m ∈ storing then 6 else 5
  | .imp =>
    if m ∈ [.pha, .php] then 3 else if m ∈ [.pla, .plp] then 4 else if m ∈ [.rts, .rti] then 6
    else if m = .brk then 7 else 2

/-! ### PPU memory in numbers -/

/-- The physical tables of the logical nametables 0 to 3 in the mode in force (R242, R244, R1024, R1033). -/
def physicalTables (c : Cartridge) : List Nat :=
  let vertical := [0, 1, 0, 1]
  let horizontal := [0, 0, 1, 1]
  let header := if c.hdrMirror then vertical else horizontal
  match c.mapper with
  | .nrom => header
  | .gxrom _ => header
  | .mmc1 m => [[0, 0, 0, 0], [1, 1, 1, 1], vertical, horizontal].getD (m.control.toNat % 4) []
  | .mmc3 m => if m.mirror then horizontal else vertical

/-- The byte of nametable RAM at an address in 0x2000-0x3EFF (R241). -/
def nametableCell (c : Cartridge) (a : Nat) : Nat := 1024 * (physicalTables c).getD (a / 1024 % 4) 0 + a % 1024

/-- The byte of palette RAM at an address in 0x3F00-0x3FFF: the multiples of 4 above 12 fold onto those below (R243). -/
def paletteCell (a : Nat) : Nat := if a % 4 = 0 then a % 16 else a % 32

/-- The CHR offset of a pattern address, before the reduction modulo |chr| (R1010, R1023, R1032, R1040). -/
def patternOffset (c : Cartridge) (a : Nat) : Nat :=
  match c.mapper with
  | .nrom => a
  | .gxrom m => 8192 * m.chrBank.toNat + a
  | .mmc1 m =>
    if m.control.toNat / 16 = 0 then 8192 * (m.chr0.toNat / 2) + a
    else 4096 * (if a < 4096 then m.chr0.toNat else m.chr1.toNat) + a % 4096
  | .mmc3 m =>
    let even (r : Byte) : Nat := r.toNat / 2 * 2
    let window := (a / 1024 + m.bankSelect.toNat / 128 * 4) % 8
    1024 * [even m.r0, even m.r0 + 1, even m.r1, even m.r1 + 1, m.r2.toNat, m.r3.toNat, m.r4.toNat,
      m.r5.toNat].getD window 0 + a % 1024

/-- |chr| in bytes (R133, R1002). -/
def chrBytes (c : Cartridge) : Nat := if c.chrBanks = 0 then 8192 else 8192 * c.chrBanks

/-- Whether two PPU addresses below 0x4000 are one byte of nametable RAM, of palette RAM or of CHR-RAM (R240). -/
def SameWritable (c : Cartridge) (a b : Nat) : Prop :=
  (a < 0x2000 ∧ b < 0x2000 ∧ c.chrBanks = 0 ∧ patternOffset c a % 8192 = patternOffset c b % 8192) ∨
    (0x2000 ≤ a ∧ a < 0x3F00 ∧ 0x2000 ≤ b ∧ b < 0x3F00 ∧ nametableCell c a = nametableCell c b) ∨
    (0x3F00 ≤ a ∧ 0x3F00 ≤ b ∧ paletteCell a = paletteCell b)

end Sys2Proof.Machine

/-! ### Encoding and fetch -/

/-- Tier 3. R300, R301, R325: decoding the bytes of a well-formed instruction gives it back with whatever follows it: no
operand bit is dropped. -/
def Obligations.DecodeEncode : Prop :=
  ∀ (i : Instr) (rest : List Byte), WellFormed i = true → decode (encode i ++ rest) = .ok (i, rest)

/-- R300: the other direction: what the decoder reads is well formed and is the encoding of what it gives, and three bytes
are always enough. -/
def Obligations.EncodeDecode : Prop :=
  (∀ (bytes rest : List Byte) (i : Instr), decode bytes = .ok (i, rest) → bytes = encode i ++ rest ∧ WellFormed i = true) ∧
    ∀ (b0 b1 b2 : Byte) (rest : List Byte), ∃ i rest', decode (b0 :: b1 :: b2 :: rest) = .ok (i, rest')

/-- Words written out from the spec's encodings, one or two for each family of the map (R325, R301, R308). -/
def Obligations.DecodeWords : Prop :=
  decodeTableWord 16 0x80A9 = some (.ldaImm 0x80) ∧ decodeTableWord 24 0x080F9D = some (.staAbx 0x080F) ∧
    decodeTableWord 16 0x5069 = some (.adcImm 0x50) ∧ decodeTableWord 8 0x4A = some .lsrAcc ∧
    decodeTableWord 16 0xFBD0 = some (.bne (-5)) ∧ decodeTableWord 24 0x30FF6C = some (.jmpInd 0x30FF) ∧
    decodeTableWord 16 0x20C7 = some (.dcpZp 0x20) ∧ decodeTableWord 8 0x02 = some .jam02

/-- R300, R321, R1100: the three bytes the fetch would read, each in the state the fetch of the one before leaves; if they
decode to i with n bytes unread, `step` runs i in the state after 3 − n fetches, then does the catch-up and the poll. -/
def Obligations.StepRunsDecoded : Prop :=
  ∀ (s : State) (i : Instr) (rest : List Byte), s.fault = none →
    let f0 := fetchByte s
    let f1 := fetchByte f0.2
    let f2 := fetchByte f1.2
    decode [f0.1, f1.1, f2.1] = .ok (i, rest) →
      let fetched := if rest.length = 2 then f0.2 else if rest.length = 1 then f1.2 else f2.2
      fetched.pc = s.pc + BitVec.ofNat 16 (3 - rest.length) ∧
        ∀ t, exec i fetched = .next t → step s = .next (complete fetched t)

/-! ### Loads, stores, transfers, stack -/

/-- R401-R403: LDA, LDX and LDY. -/
def Obligations.Loads : Prop :=
  ReadsWith .lda (eightModes 0xA9 0xA5 0xB5 0xAD 0xBD 0xB9 0xA1 0xB1)
      (fun m s t => t.a = m ∧ SameIndex s t ∧ FlagsAfter s.p t.p (zn m)) ∧
    ReadsWith .ldx [(0xA2, .imm), (0xA6, .zp), (0xB6, .zpy), (0xAE, .abs), (0xBE, .aby)]
      (fun m s t => t.x = m ∧ t.a = s.a ∧ t.y = s.y ∧ t.sp = s.sp ∧ FlagsAfter s.p t.p (zn m)) ∧
    ReadsWith .ldy [(0xA0, .imm), (0xA4, .zp), (0xB4, .zpx), (0xAC, .abs), (0xBC, .abx)]
      (fun m s t => t.y = m ∧ t.a = s.a ∧ t.x = s.x ∧ t.sp = s.sp ∧ FlagsAfter s.p t.p (zn m))

/-- R404-R406: STA, STX and STY. -/
def Obligations.Stores : Prop :=
  WritesWith .sta
      [(0x85, .zp), (0x95, .zpx), (0x8D, .abs), (0x9D, .abx), (0x99, .aby), (0x81, .izx), (0x91, .izy)] State.a ∧
    WritesWith .stx [(0x86, .zp), (0x96, .zpy), (0x8E, .abs)] State.x ∧
    WritesWith .sty [(0x84, .zp), (0x94, .zpx), (0x8C, .abs)] State.y

/-- R407-R412: TAX, TAY, TXA, TYA, TSX and TXS. -/
def Obligations.Transfers : Prop :=
  ImpliedWith .tax 0xAA (fun s t =>
      t.x = s.a ∧ t.a = s.a ∧ t.y = s.y ∧ t.sp = s.sp ∧ FlagsAfter s.p t.p (zn s.a)) ∧
    ImpliedWith .tay 0xA8 (fun s t =>
      t.y = s.a ∧ t.a = s.a ∧ t.x = s.x ∧ t.sp = s.sp ∧ FlagsAfter s.p t.p (zn s.a)) ∧
    ImpliedWith .txa 0x8A (fun s t => t.a = s.x ∧ SameIndex s t ∧ FlagsAfter s.p t.p (zn s.x)) ∧
    ImpliedWith .tya 0x98 (fun s t => t.a = s.y ∧ SameIndex s t ∧ FlagsAfter s.p t.p (zn s.y)) ∧
    ImpliedWith .tsx 0xBA (fun s t =>
      t.x = s.sp ∧ t.a = s.a ∧ t.y = s.y ∧ t.sp = s.sp ∧ FlagsAfter s.p t.p (zn s.sp)) ∧
    ImpliedWith .txs 0x9A (fun s t => t.sp = s.x ∧ t.a = s.a ∧ t.x = s.x ∧ t.y = s.y ∧ t.p = s.p)

/-- R413-R416: PHA and PHP push one byte; PLA and PLP pull one. Nothing but the named fields changes. -/
def Obligations.StackInstructions : Prop :=
  HasForms .pha [(0x48, .imp)] ∧ HasForms .php [(0x08, .imp)] ∧ HasForms .pla [(0x68, .imp)] ∧
    HasForms .plp [(0x28, .imp)] ∧
    ∀ (i : Instr) (s : State),
      (i.mnemonic = .pha → ∃ t, exec i s = .next t ∧ Pushed [s.a] s t ∧
        t = { s with ram := t.ram, sp := t.sp, cycles := s.cycles + 3 }) ∧
      (i.mnemonic = .php → ∃ t b, exec i s = .next t ∧ Pushed [b] s t ∧
        FlagsAfter s.p b [(.b, true), (.u, true)] ∧
        t = { s with ram := t.ram, sp := t.sp, cycles := s.cycles + 3 }) ∧
      (i.mnemonic = .pla → ∃ t, exec i s = .next t ∧ FlagsAfter s.p t.p (zn (stacked s 1)) ∧
        t = { s with a := stacked s 1, p := t.p, sp := s.sp + 1, cycles := s.cycles + 4 }) ∧
      (i.mnemonic = .plp → ∃ t, exec i s = .next t ∧ FlagsAfter (stacked s 1) t.p [(.b, false), (.u, true)] ∧
        t = { s with p := t.p, sp := s.sp + 1, cycles := s.cycles + 4 })

/-! ### Arithmetic and logic -/

/-- R446, R447, R451, R452, R613: ADC and SBC with the carry as an integer sum and difference, whatever D is; 0xEB is SBC
immediate. -/
def Obligations.AddSubtract : Prop :=
  ReadsWith .adc (eightModes 0x69 0x65 0x75 0x6D 0x7D 0x79 0x61 0x71) (fun m s t => AddsInto m (bit s.c) s t) ∧
    ReadsWith .sbc ((0xEB, .imm) :: eightModes 0xE9 0xE5 0xF5 0xED 0xFD 0xF9 0xE1 0xF1)
      (fun m s t => SubtractsFrom m (1 - bit s.c) s t)

/-- R453-R456: AND, ORA, EOR and BIT, bit by bit. -/
def Obligations.LogicAndBit : Prop :=
  ReadsWith .and (eightModes 0x29 0x25 0x35 0x2D 0x3D 0x39 0x21 0x31) (fun m s t =>
      (∀ k, t.a.getLsbD k = (s.a.getLsbD k && m.getLsbD k)) ∧ SameIndex s t ∧ FlagsAfter s.p t.p (zn t.a)) ∧
    ReadsWith .ora (eightModes 0x09 0x05 0x15 0x0D 0x1D 0x19 0x01 0x11) (fun m s t =>
      (∀ k, t.a.getLsbD k = (s.a.getLsbD k || m.getLsbD k)) ∧ SameIndex s t ∧ FlagsAfter s.p t.p (zn t.a)) ∧
    ReadsWith .eor (eightModes 0x49 0x45 0x55 0x4D 0x5D 0x59 0x41 0x51) (fun m s t =>
      (∀ k, t.a.getLsbD k = (s.a.getLsbD k ^^ m.getLsbD k)) ∧ SameIndex s t ∧ FlagsAfter s.p t.p (zn t.a)) ∧
    ReadsWith .bit [(0x24, .zp), (0x2C, .abs)] (fun m s t =>
      SameRegisters s t ∧
        FlagsAfter s.p t.p [(.z, decide (s.a &&& m = 0)), (.n, m.getLsbD 7), (.v, m.getLsbD 6)])

/-- R448, R457-R459: CMP, CPX and CPY. -/
def Obligations.Compares : Prop :=
  ReadsWith .cmp (eightModes 0xC9 0xC5 0xD5 0xCD 0xDD 0xD9 0xC1 0xD1)
      (fun m s t => SameRegisters s t ∧ Compared s.a m s t) ∧
    ReadsWith .cpx [(0xE0, .imm), (0xE4, .zp), (0xEC, .abs)]
      (fun m s t => SameRegisters s t ∧ Compared s.x m s t) ∧
    ReadsWith .cpy [(0xC0, .imm), (0xC4, .zp), (0xCC, .abs)]
      (fun m s t => SameRegisters s t ∧ Compared s.y m s t)

/-- R460, R461: INC and DEC of memory. -/
def Obligations.IncrementMemory : Prop :=
  HasForms .inc [(0xE6, .zp), (0xF6, .zpx), (0xEE, .abs), (0xFE, .abx)] ∧
    HasForms .dec [(0xC6, .zp), (0xD6, .zpx), (0xCE, .abs), (0xDE, .abx)] ∧
    ModifiesWith .inc (fun m _ => m + 1) (fun _ r s t => t.a = s.a ∧ FlagsAfter s.p t.p (zn r)) ∧
    ModifiesWith .dec (fun m _ => m + 255) (fun _ r s t => t.a = s.a ∧ FlagsAfter s.p t.p (zn r))

/-- R462-R465: INX, INY, DEX and DEY. -/
def Obligations.IncrementRegisters : Prop :=
  ImpliedWith .inx 0xE8 (fun s t => t.x = BitVec.ofNat 8 (s.x.toNat + 1) ∧ t.a = s.a ∧ t.y = s.y ∧ t.sp = s.sp ∧
      FlagsAfter s.p t.p (zn t.x)) ∧
    ImpliedWith .iny 0xC8 (fun s t => t.y = BitVec.ofNat 8 (s.y.toNat + 1) ∧ t.a = s.a ∧ t.x = s.x ∧ t.sp = s.sp ∧
      FlagsAfter s.p t.p (zn t.y)) ∧
    ImpliedWith .dex 0xCA (fun s t => t.x = BitVec.ofNat 8 (s.x.toNat + 255) ∧ t.a = s.a ∧ t.y = s.y ∧ t.sp = s.sp ∧
      FlagsAfter s.p t.p (zn t.x)) ∧
    ImpliedWith .dey 0x88 (fun s t => t.y = BitVec.ofNat 8 (s.y.toNat + 255) ∧ t.a = s.a ∧ t.x = s.x ∧ t.sp = s.sp ∧
      FlagsAfter s.p t.p (zn t.y))

/-- R500-R504: ASL, LSR, ROL and ROR, in numbers. -/
def Obligations.Shifts : Prop :=
  ShiftsWith .asl (shiftModes 0x0A 0x06 0x16 0x0E 0x1E) (fun m _ => 2 * m) (fun m => decide (128 ≤ m)) ∧
    ShiftsWith .lsr (shiftModes 0x4A 0x46 0x56 0x4E 0x5E) (fun m _ => m / 2) (fun m => decide (m % 2 = 1)) ∧
    ShiftsWith .rol (shiftModes 0x2A 0x26 0x36 0x2E 0x3E) (fun m c => 2 * m + c) (fun m => decide (128 ≤ m)) ∧
    ShiftsWith .ror (shiftModes 0x6A 0x66 0x76 0x6E 0x7E) (fun m c => m / 2 + 128 * c) (fun m => decide (m % 2 = 1))

/-! ### Control -/

/-- R550-R558, R332: the eight conditional branches. -/
def Obligations.Branches : Prop :=
  BranchesWhen .bpl 0x10 (fun s => !s.n) ∧ BranchesWhen .bmi 0x30 State.n ∧
    BranchesWhen .bvc 0x50 (fun s => !s.v) ∧ BranchesWhen .bvs 0x70 State.v ∧
    BranchesWhen .bcc 0x90 (fun s => !s.c) ∧ BranchesWhen .bcs 0xB0 State.c ∧
    BranchesWhen .bne 0xD0 (fun s => !s.z) ∧ BranchesWhen .beq 0xF0 State.z

/-- R559, R560, R311: JMP absolute, and JMP indirect with its page-wrapped pointer; both pointer reads act. -/
def Obligations.Jumps : Prop :=
  HasForms .jmp [(0x4C, .abs), (0x6C, .ind)] ∧
    (∀ (i : Instr) (a : Word) (s : State), i.mnemonic = .jmp → i.form = .operand (.mem (.abs a)) →
      exec i s = .next { s with pc := a, cycles := s.cycles + 3 }) ∧
    ∀ (i : Instr) (p q : Word) (s : State), i.mnemonic = .jmp → i.form = .indirect p →
      q.toNat = p.toNat / 256 * 256 + (p.toNat + 1) % 256 →
      let lo := busRead p s
      let hi := busRead q lo.2
      ∃ t, exec i s = .next t ∧ t.pc.toNat = 256 * hi.1.toNat + lo.1.toNat ∧ t.cycles = s.cycles + 5 ∧
        SameRegisters s t ∧ t.p = s.p ∧ SameOutside hi.2 t

/-- R561, R562: JSR pushes the address of its own last byte, high byte first; RTS pulls an address and adds 1. -/
def Obligations.CallAndReturn : Prop :=
  HasForms .jsr [(0x20, .abs)] ∧ HasForms .rts [(0x60, .imp)] ∧
    ∀ (i : Instr) (s : State),
      (i.mnemonic = .jsr → ∃ a t hi lo, i.form = .operand (.mem (.abs a)) ∧ exec i s = .next t ∧
        256 * hi.toNat + lo.toNat = (s.pc.toNat + 65535) % 65536 ∧ Pushed [hi, lo] s t ∧
        t = { s with ram := t.ram, sp := t.sp, pc := a, cycles := s.cycles + 6 }) ∧
      (i.mnemonic = .rts → ∃ t, exec i s = .next t ∧
        t.pc.toNat = (256 * (stacked s 2).toNat + (stacked s 1).toNat + 1) % 65536 ∧
        t = { s with sp := s.sp + 2, pc := t.pc, cycles := s.cycles + 6 })

/-- R563, R564: BRK takes the exception through 0xFFFE with B = 1 in the pushed status; RTI restores P and PC. -/
def Obligations.BreakAndReturn : Prop :=
  HasForms .brk [(0x00, .imp)] ∧ HasForms .rti [(0x40, .imp)] ∧
    ∀ (i : Instr) (s : State),
      (i.mnemonic = .brk → ∃ t hi lo st, exec i s = .next t ∧ 256 * hi.toNat + lo.toNat = s.pc.toNat ∧
        FlagsAfter s.p st [(.b, true), (.u, true)] ∧ Pushed [hi, lo, st] s t ∧ FlagsAfter s.p t.p [(.i, true)] ∧
        t.pc.toNat = 256 * (s.cart.read 0xFFFF).toNat + (s.cart.read 0xFFFE).toNat ∧
        t = { s with ram := t.ram, sp := t.sp, p := t.p, pc := t.pc, cycles := s.cycles + 7 }) ∧
      (i.mnemonic = .rti → ∃ t, exec i s = .next t ∧ FlagsAfter (stacked s 1) t.p [(.b, false), (.u, true)] ∧
        t.pc.toNat = 256 * (stacked s 3).toNat + (stacked s 2).toNat ∧
        t = { s with sp := s.sp + 3, p := t.p, pc := t.pc, cycles := s.cycles + 6 })

/-- R565-R571: the flag instructions: one flag each, nothing else. -/
def Obligations.FlagInstructions : Prop :=
  ∀ row ∈ [(Mnemonic.clc, 0x18#8, Flag.c, false), (.sec, 0x38#8, .c, true), (.cli, 0x58#8, .i, false),
      (.sei, 0x78#8, .i, true), (.clv, 0xB8#8, .v, false), (.cld, 0xD8#8, .d, false), (.sed, 0xF8#8, .d, true)],
    ImpliedWith row.1 row.2.1 (fun s t => SameRegisters s t ∧ FlagsAfter s.p t.p [(row.2.2.1, row.2.2.2)])

/-- R572, R621-R623: the NOPs. The implied ones only spend 2 cycles; the others make their operand read and discard it. -/
def Obligations.NoOperations : Prop :=
  HasForms .nop nopForms ∧
    ∀ (i : Instr) (s : State), i.mnemonic = .nop →
      (i.form = .implied ∧ exec i s = .next { s with cycles := s.cycles + 2 }) ∨
        ∃ o t, i.form = .operand o ∧ exec i s = .next t ∧ SameRegisters s t ∧ t.p = s.p ∧ t.pc = s.pc ∧
          t.cycles = s.cycles + i.cycles + pagePenalty o s ∧ SameOutside (readSource o s).2 t

/-! ### Undocumented opcodes -/

/-- R600-R603: SLO, RLA and SRE: the shift of memory, then the logic operation on A; Z and N of A. -/
def Obligations.ShiftAndLogic : Prop :=
  HasForms .slo (sevenModes 0x03 0x07 0x0F 0x13 0x17 0x1B 0x1F) ∧
    HasForms .rla (sevenModes 0x23 0x27 0x2F 0x33 0x37 0x3B 0x3F) ∧
    HasForms .sre (sevenModes 0x43 0x47 0x4F 0x53 0x57 0x5B 0x5F) ∧
    ModifiesWith .slo (fun m _ => 2 * m) (fun old r s t => t.a = s.a ||| r ∧
      FlagsAfter s.p t.p ((.c, decide (128 ≤ old.toNat)) :: zn t.a)) ∧
    ModifiesWith .rla (fun m c => 2 * m + c) (fun old r s t => t.a = s.a &&& r ∧
      FlagsAfter s.p t.p ((.c, decide (128 ≤ old.toNat)) :: zn t.a)) ∧
    ModifiesWith .sre (fun m _ => m / 2) (fun old r s t => t.a = s.a ^^^ r ∧
      FlagsAfter s.p t.p ((.c, decide (old.toNat % 2 = 1)) :: zn t.a))

/-- R604, R607, R608: RRA adds with the carry out of its rotate, ISC subtracts with borrow, DCP compares. -/
def Obligations.ModifyAndArithmetic : Prop :=
  HasForms .rra (sevenModes 0x63 0x67 0x6F 0x73 0x77 0x7B 0x7F) ∧
    HasForms .dcp (sevenModes 0xC3 0xC7 0xCF 0xD3 0xD7 0xDB 0xDF) ∧
    HasForms .isc (sevenModes 0xE3 0xE7 0xEF 0xF3 0xF7 0xFB 0xFF) ∧
    ModifiesWith .rra (fun m c => m / 2 + 128 * c) (fun old r s t => AddsInto r (old.toNat % 2) s t) ∧
    ModifiesWith .dcp (fun m _ => m + 255) (fun _ r s t => t.a = s.a ∧ Compared s.a r s t) ∧
    ModifiesWith .isc (fun m _ => m + 1) (fun _ r s t => SubtractsFrom r (1 - bit s.c) s t)

/-- R605, R606: SAX and LAX. -/
def Obligations.CombinedLoadStore : Prop :=
  WritesWith .sax [(0x83, .izx), (0x87, .zp), (0x8F, .abs), (0x97, .zpy)] (fun s => s.a &&& s.x) ∧
    ReadsWith .lax [(0xA3, .izx), (0xA7, .zp), (0xAF, .abs), (0xB3, .izy), (0xB7, .zpy), (0xBF, .aby)]
      (fun m s t => t.a = m ∧ t.x = m ∧ t.y = s.y ∧ t.sp = s.sp ∧ FlagsAfter s.p t.p (zn m))

/-- R609-R612: ANC, ALR, ARR and SBX. -/
def Obligations.ImmediateCombinations : Prop :=
  ReadsWith .anc [(0x0B, .imm), (0x2B, .imm)] (fun m s t => t.a = s.a &&& m ∧ SameIndex s t ∧
      FlagsAfter s.p t.p ((.c, t.a.getLsbD 7) :: zn t.a)) ∧
    ReadsWith .alr [(0x4B, .imm)] (fun m s t => t.a = BitVec.ofNat 8 ((s.a &&& m).toNat / 2) ∧ SameIndex s t ∧
      FlagsAfter s.p t.p ((.c, decide ((s.a &&& m).toNat % 2 = 1)) :: zn t.a)) ∧
    ReadsWith .arr [(0x6B, .imm)] (fun m s t =>
      t.a = BitVec.ofNat 8 ((s.a &&& m).toNat / 2 + 128 * bit s.c) ∧ SameIndex s t ∧
      FlagsAfter s.p t.p ((.c, t.a.getLsbD 6) :: (.v, t.a.getLsbD 6 ^^ t.a.getLsbD 5) :: zn t.a)) ∧
    ReadsWith .sbx [(0xCB, .imm)] (fun m s t =>
      t.x = BitVec.ofInt 8 ((s.a &&& s.x).toNat - m.toNat) ∧ t.a = s.a ∧ t.y = s.y ∧ t.sp = s.sp ∧
      FlagsAfter s.p t.p ((.c, decide (m.toNat ≤ (s.a &&& s.x).toNat)) :: zn t.x))

/-- R614-R616: ANE and LXA, for every value of their parameters, and LAS. -/
def Obligations.UnstableLoads : Prop :=
  ReadsWith .ane [(0x8B, .imm)] (fun m s t => t.a = (s.a ||| s.cfg.magicAne) &&& s.x &&& m ∧ SameIndex s t ∧
      FlagsAfter s.p t.p (zn t.a)) ∧
    ReadsWith .lxa [(0xAB, .imm)] (fun m s t => t.a = (s.a ||| s.cfg.magicLxa) &&& m ∧ t.x = t.a ∧ t.y = s.y ∧
      t.sp = s.sp ∧ FlagsAfter s.p t.p (zn t.a)) ∧
    ReadsWith .las [(0xBB, .aby)] (fun m s t => t.a = m &&& s.sp ∧ t.x = t.a ∧ t.sp = t.a ∧ t.y = s.y ∧
      FlagsAfter s.p t.p (zn t.a))

/-- R617-R620: SHA, SHX, SHY and TAS store a register ANDed with the base's high byte plus 1; on a page cross that byte
replaces the address's high byte under `replace_high`, and the plain address is used otherwise. TAS sets SP first. -/
def Obligations.HighByteStores : Prop :=
  HasForms .sha [(0x93, .izy), (0x9F, .aby)] ∧ HasForms .shx [(0x9E, .aby)] ∧ HasForms .shy [(0x9C, .abx)] ∧
    HasForms .tas [(0x9B, .aby)] ∧
    ∀ (i : Instr) (s : State), i.mnemonic = .sha ∨ i.mnemonic = .shx ∨ i.mnemonic = .shy ∨ i.mnemonic = .tas →
      ∃ e t addr v, i.form = .operand (.mem e) ∧ exec i s = .next t ∧
        v = (if i.mnemonic = .shx then s.x else if i.mnemonic = .shy then s.y else s.a &&& s.x) &&&
          BitVec.ofNat 8 ((effAddr e s).base.toNat / 256 + 1) ∧
        addr.toNat = (if (effAddr e s).crossed = true ∧ s.cfg.shPageCross = .replaceHigh then
          256 * v.toNat + (effAddr e s).addr.toNat % 256 else (effAddr e s).addr.toNat) ∧
        t.a = s.a ∧ t.x = s.x ∧ t.y = s.y ∧ t.sp = (if i.mnemonic = .tas then s.a &&& s.x else s.sp) ∧ t.p = s.p ∧
        t.pc = s.pc ∧ t.cycles = s.cycles + i.cycles + dmaStall addr (s.cycles + i.cycles) ∧
        SameOutside (busWrite addr v s) t

/-- R341, R624, R700: exactly the 12 JAM values; each records the fault with the opcode and its address, puts PC back on
the opcode, and leaves everything else, the cycle counter included, as it is. -/
def Obligations.JamFaults : Prop :=
  HasForms .jam ([0x02, 0x12, 0x22, 0x32, 0x42, 0x52, 0x62, 0x72, 0x92, 0xB2, 0xD2, 0xF2].map fun b => (b, Mode.imp)) ∧
    ∀ (i : Instr) (s : State), i.mnemonic = .jam →
      exec i s = .next { s with fault := some { opcode := i.opcode, pc := s.pc - 1 }, pc := s.pc - 1 }

/-! ### Frames over every instruction -/

/-- R320, R203: what no instruction changes in plain memory: a byte of RAM, PRG-RAM or PRG-ROM that none of its stores
touches reads after as it read before. The addresses stored to are computed from the state it starts in. -/
def Obligations.MemoryFrame : Prop :=
  ∀ (i : Instr) (s t : State), exec i s = .next t →
    ∀ a : Word, isStorable a = true → (∀ b ∈ storedAddresses i s, touches b a = false) →
      (busRead a t).1 = (busRead a s).1

/-- R108-R113 (lists the spec derives from its instruction rules): each flag is changed by its listed writers only; B and U by none but PLP and RTI, which force them. -/
def Obligations.FlagWriters : Prop :=
  ∀ (i : Instr) (s t : State), exec i s = .next t →
    (i.mnemonic ∉ [.adc, .sbc, .cmp, .cpx, .cpy, .asl, .lsr, .rol, .ror, .clc, .sec, .plp, .rti, .slo, .rla, .sre, .rra,
      .dcp, .isc, .anc, .alr, .arr, .sbx] → t.c = s.c) ∧
    (i.mnemonic ∉ [.lda, .ldx, .ldy, .tax, .tay, .txa, .tya, .tsx, .pla, .adc, .sbc, .and, .ora, .eor, .cmp, .cpx, .cpy,
      .inc, .dec, .inx, .iny, .dex, .dey, .asl, .lsr, .rol, .ror, .slo, .rla, .sre, .rra, .dcp, .isc, .lax, .anc, .alr,
      .arr, .sbx, .ane, .lxa, .las, .bit, .plp, .rti] → t.z = s.z ∧ t.n = s.n) ∧
    (i.mnemonic ∉ [.sei, .cli, .plp, .rti, .brk] → t.i = s.i) ∧
    (i.mnemonic ∉ [.sed, .cld, .plp, .rti] → t.d = s.d) ∧
    (i.mnemonic ∉ [.adc, .sbc, .bit, .clv, .plp, .rti, .rra, .isc, .arr] → t.v = s.v) ∧
    (s.statusOk = true → t.statusOk = true)

/-- R100-R105: A, X, Y, SP and PC are changed by their writers only. -/
def Obligations.RegisterWriters : Prop :=
  ∀ (i : Instr) (s t : State), exec i s = .next t →
    (i.mnemonic ∉ [.lda, .txa, .tya, .pla, .adc, .sbc, .and, .ora, .eor, .asl, .lsr, .rol, .ror, .slo, .rla, .sre, .rra,
      .isc, .lax, .anc, .alr, .arr, .ane, .lxa, .las] → t.a = s.a) ∧
    (i.mnemonic ∉ [.ldx, .tax, .tsx, .inx, .dex, .lax, .sbx, .lxa, .las] → t.x = s.x) ∧
    (i.mnemonic ∉ [.ldy, .tay, .iny, .dey] → t.y = s.y) ∧
    (i.mnemonic ∉ [.txs, .tas, .las, .pha, .php, .pla, .plp, .jsr, .rts, .rti, .brk] → t.sp = s.sp) ∧
    (i.mnemonic ∉ [.jmp, .jsr, .rts, .rti, .brk, .bpl, .bmi, .bvc, .bvs, .bcc, .bcs, .bne, .beq, .jam] → t.pc = s.pc)

/-! ### Buses -/

/-- R304-R307, R309, R310, R312: the effective addresses as numbers, with the page-cross condition; R331: the cycle it
adds to a read, as a number, in each mode; R330, R325: the base cycles of every instruction with a handler. -/
def Obligations.EffectiveAddresses : Prop :=
  ∀ (s : State) (n : Byte) (w : Word),
    (effAddr (.zp n) s).addr.toNat = n.toNat ∧
    (effAddr (.zpx n) s).addr.toNat = (n.toNat + s.x.toNat) % 256 ∧
    (effAddr (.zpy n) s).addr.toNat = (n.toNat + s.y.toNat) % 256 ∧
    (effAddr (.abs w) s).addr = w ∧
    (effAddr (.izx n) s).addr.toNat =
      256 * (Cells.read s.ram ((n.toNat + s.x.toNat + 1) % 256)).toNat +
        (Cells.read s.ram ((n.toNat + s.x.toNat) % 256)).toNat ∧
    (effAddr (.abx w) s).addr.toNat = (w.toNat + s.x.toNat) % 65536 ∧ (effAddr (.abx w) s).base = w ∧
    (effAddr (.aby w) s).addr.toNat = (w.toNat + s.y.toNat) % 65536 ∧ (effAddr (.aby w) s).base = w ∧
    (effAddr (.izy n) s).base.toNat =
      256 * (Cells.read s.ram ((n.toNat + 1) % 256)).toNat + (Cells.read s.ram n.toNat).toNat ∧
    (effAddr (.izy n) s).addr.toNat = ((effAddr (.izy n) s).base.toNat + s.y.toNat) % 65536 ∧
    (∀ m : MemForm, (effAddr m s).crossed = true ↔ (effAddr m s).base.toNat / 256 ≠ (effAddr m s).addr.toNat / 256) ∧
    (let crossing (base index : Nat) : Nat := if (base + index) % 65536 / 256 = base / 256 then 0 else 1
     (∀ o ∈ [Source.imm n, .mem (.zp n), .mem (.zpx n), .mem (.zpy n), .mem (.abs w), .mem (.izx n)],
       pagePenalty o s = 0) ∧
     pagePenalty (.mem (.abx w)) s = crossing w.toNat s.x.toNat ∧
     pagePenalty (.mem (.aby w)) s = crossing w.toNat s.y.toNat ∧
     pagePenalty (.mem (.izy n)) s =
       crossing (256 * (Cells.read s.ram ((n.toNat + 1) % 256)).toNat + (Cells.read s.ram n.toNat).toNat) s.y.toNat) ∧
    ∀ i : Instr, i.mnemonic ≠ .jam → i.cycles = baseCycles i.mnemonic (modeOf i.form)

/-- R202, R203: a byte written through any window of internal RAM is read through every window, and no other byte of RAM
changes. -/
def Obligations.RamMirrors : Prop :=
  ∀ (s : State) (a b : Word) (d : Byte), a.toNat < 0x2000 → b.toNat < 0x2000 →
    (busRead b (busWrite a d s)).1 = (if a.toNat % 0x800 = b.toNat % 0x800 then d else (busRead b s).1) ∧
      busWrite a d s = { s with ram := (busWrite a d s).ram }

/-- R201, R214 (which the spec derives), R19: the reads that have a side effect, and what each changes: the shift index
(R231), VBL and w (R802), OAMADDR (R804), v and the read buffer (R807), the latch (R808). Every other read changes nothing, but that a read of an address nothing drives takes the next draw. The form of a draw, the opaque
`Config.openBus` at the counter `draws` which the read advances by 1, is the model's own choice (DESIGN CHOICE, log entry
5); R19 says only that the value is drawn afresh. -/
def Obligations.ReadSideEffects : Prop :=
  ∀ (s : State) (a : Word),
    (a.toNat < 0x2000 ∨ 0x6000 ≤ a.toNat ∨ a = 0x4017 ∨ (a.toNat < 0x4000 ∧ a.toNat % 8 ∉ [2, 4, 7]) →
      (busRead a s).2 = s) ∧
    ((0x4000 ≤ a.toNat ∧ a.toNat ≤ 0x4014) ∨ (0x4018 ≤ a.toNat ∧ a.toNat < 0x6000) →
      busRead a s = (Config.openBus s.draws, { s with draws := s.draws + 1 })) ∧
    (a = 0x4015 → (busRead a s).2 = { s with apu := { s.apu with frameIrq := false } }) ∧
    (a = 0x4016 → (busRead a s).2 =
      { s with ctl := { s.ctl with
        shiftIndex := s.ctl.shiftIndex + if s.ctl.strobe = false ∧ s.ctl.shiftIndex < 8 then 1 else 0 } }) ∧
    (0x2000 ≤ a.toNat → a.toNat < 0x4000 →
      let vram := s.ppu.v.toNat % 0x4000
      (busRead a s).1 = (portRead (a.toNat % 8) s).1 ∧ (busRead a s).2 = { s with ppu := { s.ppu with
      vbl := s.ppu.vbl && decide (a.toNat % 8 ≠ 2)
      w := s.ppu.w && decide (a.toNat % 8 ≠ 2)
      oamAddr := if a.toNat % 8 = 4 then s.ppu.oamAddr + 1 else s.ppu.oamAddr
      v := if a.toNat % 8 = 7 then s.ppu.v + (if s.ppu.ctrl.getLsbD 2 then 32 else 1) else s.ppu.v
      readBuffer :=
        if a.toNat % 8 = 7 then ppuRead s.cart s.ppu (if vram < 0x3F00 then vram else vram - 0x1000)
        else s.ppu.readBuffer
      latch := (busRead a s).1 } })

/-- R220: OAM DMA from a page of plain memory copies its 256 bytes in order from OAMADDR on, with wrap; the latch holds
the last byte; OAMADDR ends where it began; nothing else changes. -/
def Obligations.OamDmaCopies : Prop :=
  ∀ (s : State) (d : Byte), d.toNat < 0x20 ∨ 0x60 ≤ d.toNat →
    let t := busWrite 0x4014 d s
    (∀ k, k < 256 → Cells.read t.ppu.oam ((s.ppu.oamAddr.toNat + k) % 256) =
      (busRead (BitVec.ofNat 16 (256 * d.toNat + k)) s).1) ∧
    t = { s with ppu := { s.ppu with oam := t.ppu.oam, latch := (busRead (BitVec.ofNat 16 (256 * d.toNat + 255)) s).1 } }

/-- R230-R232: after the strobe falls, successive reads of 0x4016 give the buttons latched, A first, then 1 for ever; the
other bits are those of 0x40. -/
def Obligations.ControllerReads : Prop :=
  ∀ (s : State) (d e : Byte) (k : Nat), d.getLsbD 0 = true → e.getLsbD 0 = false →
    let latched := busWrite 0x4016 e (busWrite 0x4016 d s)
    let read := busRead 0x4016 ((fun u => (busRead 0x4016 u).2)^[k] latched)
    read.1.toNat = 0x40 + (if k < 8 then s.ctl.buttons.toNat / 2 ^ k % 2 else 1)

/-! ### PPU -/

/-- R800, R805, R806: the three ways a program sets t, in fields: the nametable bits of PPUCTRL, the two PPUSCROLL writes
and the two PPUADDR writes, with the toggle ending where it began. -/
def Obligations.ScrollRegisterWrites : Prop :=
  ∀ (s : State) (d e : Byte),
    (portWrite 0 d s).ppu.t.toNat =
      s.ppu.t.toNat / 4096 * 4096 + 1024 * (d.toNat % 4) + s.ppu.t.toNat % 1024 ∧
    (s.ppu.w = false →
      let p := (portWrite 5 e (portWrite 5 d s)).ppu
      p.t.toNat = 4096 * (e.toNat % 8) + 1024 * (s.ppu.t.toNat / 1024 % 4) + 32 * (e.toNat / 8) + d.toNat / 8 ∧
        p.x.toNat = d.toNat % 8 ∧ p.v = s.ppu.v ∧ p.w = false) ∧
    (s.ppu.w = false →
      let p := (portWrite 6 e (portWrite 6 d s)).ppu
      p.v.toNat = 256 * (d.toNat % 64) + e.toNat ∧ p.t = p.v ∧ p.x = s.ppu.x ∧ p.w = false)

/-- R802, R807, R808: what a read of each PPU port returns: the status flags over the latch, the OAM byte, the buffer or
the palette byte, and the latch for the write-only ports. -/
def Obligations.PortReadValues : Prop :=
  ∀ (s : State) (n : Nat), n < 8 →
    (portRead n s).1 =
      if n = 2 then BitVec.ofNat 8 (128 * bit s.ppu.vbl + 64 * bit s.ppu.s0 + 32 * bit s.ppu.ovf + s.ppu.latch.toNat % 32)
      else if n = 4 then Cells.read s.ppu.oam s.ppu.oamAddr.toNat
      else if n = 7 then
        if s.ppu.v.toNat % 0x4000 < 0x3F00 then s.ppu.readBuffer
        else Cells.read s.ppu.pal (palIndex (s.ppu.v.toNat % 0x4000))
      else s.ppu.latch

/-- R240-R244, R1008: PPU memory, with every cell as a number. An address reads the byte of CHR, nametable RAM or palette
RAM that its range and the mode in force give. A write is read back at every address of the same writable byte and at no
other of the whole bus, in whichever range, and changes only nametable RAM, palette RAM or CHR-RAM. -/
def Obligations.PpuMemory : Prop :=
  ∀ (s : State) (a b : Nat) (d : Byte), a < 0x4000 → b < 0x4000 →
    let t := ppuWrite a d s
    ppuRead s.cart s.ppu a =
      (if a < 0x2000 then Cells.read s.cart.chr (patternOffset s.cart a % chrBytes s.cart)
       else if a < 0x3F00 then Cells.read s.ppu.nt (nametableCell s.cart a)
       else Cells.read s.ppu.pal (paletteCell a)) ∧
    (SameWritable s.cart a b → ppuRead t.cart t.ppu b = d) ∧
    (¬SameWritable s.cart a b → ppuRead t.cart t.ppu b = ppuRead s.cart s.ppu b) ∧
    t = { s with
      ppu := { s.ppu with nt := t.ppu.nt, pal := t.ppu.pal }
      cart := { s.cart with chr := t.cart.chr } } ∧
    (a < 0x2000 → t.ppu = s.ppu) ∧ (0x2000 ≤ a → t.cart = s.cart) ∧ (s.cart.chrBanks ≠ 0 → t.cart = s.cart) ∧
    (a < 0x3F00 → t.ppu.pal = s.ppu.pal) ∧ (0x3F00 ≤ a → t.ppu.nt = s.ppu.nt)

/-- R826-R828: the scroll functions, in fields: coarse X counts to 31 and toggles the horizontal nametable bit; fine Y
carries into coarse Y, which wraps at 29 with a toggle and at 31 without; the two copies take their own fields. -/
def Obligations.ScrollFunctions : Prop :=
  ∀ v t : BitVec 15,
    let n := v.toNat
    (incCoarseX v).toNat = (if n % 32 = 31 then n / 2048 * 2048 + 1024 * (1 - n / 1024 % 2) + n / 32 % 32 * 32 else n + 1) ∧
    (incY v).toNat =
      (if n / 4096 < 7 then n + 4096
       else if n / 32 % 32 = 29 then 2048 * (1 - n / 2048 % 2) + n / 1024 % 2 * 1024 + n % 32
       else n / 1024 % 4 * 1024 + (n / 32 % 32 + 1) % 32 * 32 + n % 32) ∧
    (copyH v t).toNat = n / 2048 * 2048 + t.toNat / 1024 % 2 * 1024 + n / 32 % 32 * 32 + t.toNat % 32 ∧
    (copyV v t).toNat =
      t.toNat / 2048 * 2048 + n / 1024 % 2 * 1024 + t.toNat / 32 % 32 * 32 + n % 32

/-- R820: one tick moves to the next dot of the 341 × 262 frame, from any position of the frame; the count of settings of
`frameComplete` that a run's end rests on (R1124) grows at dot (241, 1), where it is set (R822), and at no other. -/
def Obligations.DotAdvance : Prop :=
  ∀ s : State, s.ppu.scanline ≤ 261 → s.ppu.dot ≤ 340 →
    let p := (ppuTick s).ppu
    89342 * p.frame + 341 * p.scanline + p.dot = 89342 * s.ppu.frame + 341 * s.ppu.scanline + s.ppu.dot + 1 ∧
      p.scanline ≤ 261 ∧ p.dot ≤ 340 ∧
      p.frameSettings = s.ppu.frameSettings + if s.ppu.scanline = 241 ∧ s.ppu.dot = 1 then 1 else 0

/-- R822, R823, R860: the VBlank flag, the NMI request and the frame flag after one tick: set at dot (241, 1), VBL
cleared at (261, 1), and changed by no other tick, whether rendering is enabled or not. -/
def Obligations.VblankEvents : Prop :=
  ∀ s : State,
    let p := (ppuTick s).ppu
    let starts := decide (s.ppu.scanline = 241 ∧ s.ppu.dot = 1)
    let clears := decide (s.ppu.scanline = 261 ∧ s.ppu.dot = 1)
    p.vbl = (starts || (s.ppu.vbl && !clears)) ∧
      p.nmiRequest = (s.ppu.nmiRequest || (starts && s.ppu.ctrl.getLsbD 7)) ∧
      p.frameComplete = (s.ppu.frameComplete || starts) ∧
      (clears = true → p.s0 = false ∧ p.ovf = false)

/-- R862 (a count the spec derives): from dot (0, 0) with VBL clear, the flag is 0 after each of the first 82182 ticks and 1 after tick 82183. -/
def Obligations.FirstVblank : Prop :=
  ∀ (s : State) (n : Nat), s.ppu.scanline = 0 → s.ppu.dot = 0 → s.ppu.vbl = false → n ≤ 82183 →
    (ppuTick^[n] s).ppu.vbl = decide (n = 82183)

/-- R850: sprite evaluation of line y with rendering enabled: the set is the first `SPRITE_LIMIT` of the OAM entries that
cover the line, in OAM order, and OVF is set exactly when more entries cover it. -/
def Obligations.SpriteEvaluation : Prop :=
  ∀ (limit : Nat) (c : Cartridge) (y : Nat) (p : Ppu), p.rendering = true →
    let covering := (List.range 64).filter fun k =>
      decide ((Cells.read p.oam (4 * k)).toNat + 1 ≤ y ∧
        y < (Cells.read p.oam (4 * k)).toNat + 1 + if p.ctrl.getLsbD 5 then 16 else 8)
    let q := spriteEvaluation limit c y p
    q.sprLine.map SpriteRec.index = covering.take limit ∧
      q.ovf = (p.ovf || decide (limit < covering.length))

/-- R852, R854, R855: a tick writes at most one cell of the framebuffer: cell (d − 1, y) at dot d of 1..256 of visible line
y, and nothing on any other dot or line. -/
def Obligations.FramebufferWrites : Prop :=
  ∀ (s : State) (n : Nat),
    (¬(s.ppu.scanline < 240 ∧ 1 ≤ s.ppu.dot ∧ s.ppu.dot ≤ 256 ∧ n = 256 * s.ppu.scanline + (s.ppu.dot - 1)) →
      Cells.read (ppuTick s).ppu.fb n = Cells.read s.ppu.fb n) ∧
    (s.ppu.scanline < 240 → 1 ≤ s.ppu.dot → s.ppu.dot ≤ 256 → s.ppu.rendering = false →
      (Cells.read (ppuTick s).ppu.fb (256 * s.ppu.scanline + (s.ppu.dot - 1))).toNat =
        ((Cells.read s.ppu.pal 0) &&& (if s.ppu.mask.getLsbD 0 then 0x30 else 0x3F)).toNat)

/-! ### APU -/

/-- R940: the frame sequencer from its start: in 4-step mode the count after n ticks is n modulo 29830, and with the
inhibit off the frame IRQ is first set by tick 29829; with the inhibit on, or in 5-step mode (period 37282), never. -/
def Obligations.FrameIrqTiming : Prop :=
  ∀ (low : SweepLowTest) (u : Apu) (n : Nat), u.fsCount = 0 → u.frameIrq = false →
    let v := (Apu.tick low)^[n] u
    v.fsMode = u.fsMode ∧ v.irqInhibit = u.irqInhibit ∧
      v.fsCount = n % (if u.fsMode then 37282 else 29830) ∧
      v.frameIrq = (!u.fsMode && !u.irqInhibit && decide (29829 ≤ n))

/-- R941, R951, R952: the APU's control registers: the mode, inhibit and acknowledge of $4017, the enables of $4015, and the
status byte with its acknowledge. -/
def Obligations.ApuControl : Prop :=
  ∀ (s : State) (d : Byte),
    (let u := (busWrite 0x4017 d s).apu
     u.fsMode = d.getLsbD 7 ∧ u.irqInhibit = d.getLsbD 6 ∧ u.frameIrq = (s.apu.frameIrq && !d.getLsbD 6) ∧
       u.fsCount = 0 ∧ u.cycle = s.apu.cycle) ∧
    (let u := (busWrite 0x4015 d s).apu
     u.enP1 = d.getLsbD 0 ∧ u.enP2 = d.getLsbD 1 ∧ u.enTri = d.getLsbD 2 ∧ u.enNoise = d.getLsbD 3 ∧
       u.pulse1.length = (if d.getLsbD 0 then s.apu.pulse1.length else 0) ∧
       u.pulse2.length = (if d.getLsbD 1 then s.apu.pulse2.length else 0) ∧
       u.tri.length = (if d.getLsbD 2 then s.apu.tri.length else 0) ∧
       u.noise.length = (if d.getLsbD 3 then s.apu.noise.length else 0) ∧ u.frameIrq = s.apu.frameIrq) ∧
    (busRead 0x4015 s).1.toNat = bit (s.apu.pulse1.length != 0) + 2 * bit (s.apu.pulse2.length != 0) +
      4 * bit (s.apu.tri.length != 0) + 8 * bit (s.apu.noise.length != 0) + 64 * bit s.apu.frameIrq ∧
    (busRead 0x4015 s).2.apu.frameIrq = false

/-- R945: on a half clock a sweep that adjusts stores exactly its target period, which fits in 11 bits; a muted or disabled
one leaves the period alone. n is 1 or 2. -/
def Obligations.SweepAdjusts : Prop :=
  ∀ (low : SweepLowTest) (n : Nat) (c : Pulse), n = 1 ∨ n = 2 →
    let change : Int := c.period.toNat / 2 ^ c.sweepShift.toNat
    let target : Int := if c.sweepNeg then c.period.toNat - change - (if n = 1 then 1 else 0) else c.period.toNat + change
    let muted := decide (0x7FF < target) ||
      match low with
      | .target => decide (target < 8)
      | .current => decide (c.period.toNat < 8)
    ((c.sweepClock low n).period.toNat : Int) =
      if c.sweepDiv = 0 ∧ c.sweepEn = true ∧ c.sweepShift ≠ 0 ∧ muted = false then target else c.period.toNat

/-- R953, R954: every channel output is 0..15, and for such outputs the mixer is 0 in silence, and lies between 0 and the
value it has with all four at 15. -/
def Obligations.MixerRange : Prop :=
  (∀ (low : SweepLowTest) (n : Nat) (c : Pulse), c.output low n ≤ 15) ∧
    (∀ u : Apu, u.triOutput ≤ 15 ∧ u.noise.output ≤ 15) ∧ mix 0 0 0 0 = 0 ∧
    ∀ p1 p2 t n : Nat, p1 ≤ 15 → p2 ≤ 15 → t ≤ 15 → n ≤ 15 →
      0 ≤ mix p1 p2 t n ∧ mix p1 p2 t n ≤ mix 15 15 15 15 ∧ (mix p1 p2 t n = 0 → p1 = 0 ∧ p2 = 0 ∧ t = 0 ∧ n = 0)

/-! ### Cartridge -/

/-- R1010, R1031, R1040: the PRG windows: NROM of one bank mirrors it and of two banks maps them straight; MMC3 keeps the
last 8 KB bank at 0xE000; GxROM selects 32 KB by bits 5..4 of the byte written. -/
def Obligations.PrgWindows : Prop :=
  ∀ (c : Cartridge) (a : Nat), 0x8000 ≤ a → a ≤ 0xFFFF →
    (c.mapper = .nrom → c.prgBanks = 1 → c.read a = Cells.read c.prg ((a - 0x8000) % 0x4000)) ∧
    (c.mapper = .nrom → c.prgBanks = 2 → c.read a = Cells.read c.prg (a - 0x8000)) ∧
    (∀ m, c.mapper = .mmc3 m → 1 ≤ c.prgBanks → 0xE000 ≤ a →
      c.read a = Cells.read c.prg ((2 * c.prgBanks - 1) * 8192 + a % 0x2000)) ∧
    ∀ (m : Gxrom) (b : Nat) (d : Byte), c.mapper = .gxrom m → c.prgBanks = 8 → 0x8000 ≤ b → b ≤ 0xFFFF →
      (c.write b d).read a = Cells.read c.prg (d.toNat / 16 % 4 * 32768 + (a - 0x8000))

/-- R1020: five serial writes with bit 7 clear, after a write with bit 7 set, load their bits 0, first bit lowest, into the
register the fifth address selects, and leave the other registers alone; the port is empty again. -/
def Obligations.Mmc1FiveWrites : Prop :=
  ∀ (m : Mmc1) (r d0 d1 d2 d3 d4 : Byte) (a0 a1 a2 a3 a4 b : Nat),
    r.getLsbD 7 = true → (∀ d ∈ [d0, d1, d2, d3, d4], d.getLsbD 7 = false) → 0x8000 ≤ b → b ≤ 0xFFFF →
    let t := (((((m.write a0 r).write a1 d0).write a2 d1).write a3 d2).write a4 d3).write b d4
    let v := d0.toNat % 2 + 2 * (d1.toNat % 2) + 4 * (d2.toNat % 2) + 8 * (d3.toNat % 2) + 16 * (d4.toNat % 2)
    t.shift = 0 ∧ t.count = 0 ∧
      t.control = (if b < 0xA000 then BitVec.ofNat 5 v else m.control ||| 0x0C) ∧
      t.chr0 = (if 0xA000 ≤ b ∧ b < 0xC000 then BitVec.ofNat 5 v else m.chr0) ∧
      t.chr1 = (if 0xC000 ≤ b ∧ b < 0xE000 then BitVec.ofNat 5 v else m.chr1) ∧
      t.prgBank = (if 0xE000 ≤ b then BitVec.ofNat 5 v else m.prgBank)

/-- R1036, R1039 (which the spec derives): from latch N ≥ 1 with the reload flag and the enable set and nothing pending, the IRQ is not pending after
clocks 1 to N and is pending after clock N + 1, under both values of `MMC3_IRQ_ZERO`. -/
def Obligations.Mmc3IrqAfterLatch : Prop :=
  ∀ (z : Mmc3IrqZero) (m : Mmc3) (k : Nat), 1 ≤ m.irqLatch.toNat → m.irqReload = true → m.irqEnable = true →
    m.irqPending = false → k ≤ m.irqLatch.toNat + 1 →
    ((Mmc3.clockIrq z)^[k] m).irqPending = decide (k = m.irqLatch.toNat + 1)

/-! ### Exceptions, the step, reset -/

/-- R710, R711: interrupt entry, for a vector in cartridge space: the return PC, high byte first, and the status with B = 0
and U = 1 are pushed; I is set; PC is the vector; 7 cycles; nothing else changes. -/
def Obligations.InterruptEntry : Prop :=
  ∀ (s : State) (vec : Word), vec = 0xFFFA ∨ vec = 0xFFFE →
    ∃ hi lo st, 256 * hi.toNat + lo.toNat = s.pc.toNat ∧ FlagsAfter s.p st [(.b, false), (.u, true)] ∧
      Pushed [hi, lo, st] s (enter vec s) ∧ FlagsAfter s.p (enter vec s).p [(.i, true)] ∧
      (enter vec s).pc.toNat = 256 * (s.cart.read (vec.toNat + 1)).toNat + (s.cart.read vec.toNat).toNat ∧
      enter vec s = { s with
        ram := (enter vec s).ram, sp := (enter vec s).sp, p := (enter vec s).p, pc := (enter vec s).pc
        cycles := s.cycles + 7 }

/-- R713, R715, R716: the poll: an NMI request outranks the IRQ and is cleared as it is taken; an IRQ is taken only with I
clear; at most one entry, followed by its own 7 cycles; else nothing happens. -/
def Obligations.InterruptPoll : Prop :=
  ∀ s : State,
    (s.ppu.nmiRequest = true →
      poll s = catchUp 7 (enter 0xFFFA { s with ppu := { s.ppu with nmiRequest := false } })) ∧
    (s.ppu.nmiRequest = false → s.i = false → (s.apu.frameIrq = true ∨ s.cart.mapper.irqPending = true) →
      poll s = catchUp 7 (enter 0xFFFE s)) ∧
    (s.ppu.nmiRequest = false → s.i = true ∨ (s.apu.frameIrq = false ∧ s.cart.mapper.irqPending = false) → poll s = s)

/-- R700, R702, R1100, R1124: a machine without a fault always steps, and the fault that a step records is that of a JAM
opcode at the PC the step began with, with no cycle spent. A faulted machine has no step and no reset, and no act of the
host changes it or the run (that an act is then without effect, and hands nothing over, is the model's choice where
R1120-R1123 are silent: log entries 14 and 18). A run stops at its first end: the fault, which is a failure, or its
limit; without an end it has done every step of its plan, and a limit of k steps is met by exactly k steps. -/
def Obligations.FaultIsTerminal : Prop :=
  (∀ s : State,
    (∀ f, s.fault = some f → step s = .fault (.fatal f.opcode f.pc) ∧ resetMachine s = none ∧
      ∀ (r : Run) (act : HostAct), r.state = s → r.act act = r) ∧
    (s.fault = none → ∃ t, step s = .next t ∧
      (t.fault = none ∨
        (t.fault = some { opcode := (busRead s.pc s).1, pc := s.pc } ∧ t.pc = s.pc ∧ t.cycles = s.cycles ∧
          (fetchInstr s).1.mnemonic = .jam)))) ∧
    ∀ (limit : Limit) (plan : List (List HostAct)) (r : Run),
      let e := runFrom limit plan r
      ((r.ending limit).isSome = true → e = r) ∧
        (∀ f, e.state.fault = some f → e.ending limit = some (.failure f)) ∧
        (e.ending limit = none → e.steps = r.steps + plan.length) ∧
        ∀ k, limit = .steps k → r.steps ≤ k → e.ending limit = some .reached → e.steps = k

/-- R1200, R1202, R136: reset, from every machine without a fault: each register of the CPU, the controller port, the PPU
and the APU at its value, PC from the vector read through the mapper, every memory, the cartridge and the buttons kept.
That a faulted machine's reset answers none is the model's reading of "defined only when fault = none" (DEDUCED, log
entry 14). -/
def Obligations.ResetValues : Prop :=
  ∀ s : State, (s.fault = none → ∃ t, resetMachine s = some t ∧
      t.a = 0 ∧ t.x = 0 ∧ t.y = 0 ∧ t.sp = 0xFD ∧ t.p = 0x24 ∧ t.cycles = 0 ∧ t.fault = none ∧
      t.pc.toNat = 256 * (s.cart.read 0xFFFD).toNat + (s.cart.read 0xFFFC).toNat ∧
      t.ctl = { buttons := s.ctl.buttons, strobe := false, shiftReg := 0, shiftIndex := 0 } ∧
      t.ppu = {
        ctrl := 0, mask := 0, vbl := false, s0 := false, ovf := false, oamAddr := 0
        v := 0, t := 0, x := 0, w := false, readBuffer := 0, latch := 0
        scanline := 0, dot := 0, frame := 0, nmiRequest := false, frameComplete := false, sprLine := []
        oam := s.ppu.oam, nt := s.ppu.nt, pal := s.ppu.pal, fb := s.ppu.fb } ∧
      (let env : Envelope := { halt := false, constVol := false, vol := 0, start := false, div := 0, decay := 0 }
       let pulse : Pulse := {
         duty := 0, env := env, sweepEn := false, sweepPeriod := 0, sweepNeg := false, sweepShift := 0
         sweepReload := false, sweepDiv := 0, period := 0, timer := 0, seqPos := 0, length := 0 }
       t.apu = {
         pulse1 := pulse, pulse2 := pulse
         tri := {
           control := false, linReload := 0, period := 0, timer := 0, step := 0, length := 0
           linCounter := 0, linReloadFlag := false }
         noise := { env := env, mode := false, periodIdx := 0, timer := 0, lfsr := 1, length := 0 }
         enP1 := false, enP2 := false, enTri := false, enNoise := false
         fsMode := false, irqInhibit := false, frameIrq := false, fsCount := 0, cycle := 0, sample := 0 }) ∧
      t.ram = s.ram ∧ t.cart = s.cart ∧ t.cfg = s.cfg) ∧
    (s.fault ≠ none → resetMachine s = none)

/-- R1003, R701: the load errors, in the order of their checks, and no other error. -/
def Obligations.LoadErrors : Prop :=
  ∀ (img : List Byte) (init : InitMem) (cfg : Config),
    let prgBanks := (img.getD 4 0).toNat
    let need := 16 + 16384 * prgBanks + 8192 * (img.getD 5 0).toNat
    let bad := img.length < 16 ∨ img.take 4 ≠ [0x4E, 0x45, 0x53, 0x1A] ∨ prgBanks = 0
    (powerOn img init cfg = .error .badHeader ↔ bad) ∧
      (powerOn img init cfg = .error .truncated ↔ ¬bad ∧ img.length < need) ∧
      (∀ n, powerOn img init cfg = .error (.unsupportedMapper n) ↔
        ¬bad ∧ need ≤ img.length ∧ n = headerMapper (img.take 16) ∧ n ∉ [0, 1, 4, 66]) ∧
      ((∃ s, powerOn img init cfg = .ok s) ↔
        ¬bad ∧ need ≤ img.length ∧ headerMapper (img.take 16) ∈ [0, 1, 4, 66])

/-! ### Invariants of a run -/

/-- Tier 3. R113, R114-R134, R731, R940: every step keeps the invariant (the canonical form of a memory is the model's,
log entry 2): the memories canonical and in bounds, the live B
and U, the PPU's position and sprite limit, the sequencer's count, the noise timer and the LFSR, the shift counts. -/
def Obligations.InvariantKept : Prop :=
  ∀ s t : State, s.Inv → step s = .next t → t.Inv

/-- R136, R1110: the invariant holds at the reset state (whose cartridge is the model's, log entry 1) and at every successful power-on. -/
def Obligations.InvariantAtReset : Prop :=
  State.reset.Inv ∧ ∀ (img : List Byte) (init : InitMem) (cfg : Config) (s : State),
    powerOn img init cfg = .ok s → s.Inv

/-- Tier 3. R1100, R1101 (which the spec derives), R1122: every step keeps the PPU and the APU in lock-step with the CPU's cycles, spends at least 2
cycles unless it faults, and emits one sample per cycle. -/
def Obligations.LockStepKept : Prop :=
  ∀ s t : State, s.Inv → s.LockStep → step s = .next t →
    t.LockStep ∧ (t.fault = none → s.cycles + 2 ≤ t.cycles) ∧
      t.samples.length = s.samples.length + (t.cycles - s.cycles)

/-- R133, R135, R1120: what no step changes: the parameters, the PRG-ROM, the header's fields, CHR-ROM, the kind of mapper,
and the buttons. -/
def Obligations.StepKeepsCartridge : Prop :=
  ∀ s t : State, step s = .next t →
    t.cfg = s.cfg ∧ t.cart.prgBanks = s.cart.prgBanks ∧ t.cart.prg = s.cart.prg ∧ t.cart.chrBanks = s.cart.chrBanks ∧
      t.cart.hdrMirror = s.cart.hdrMirror ∧ t.cart.mapper.number = s.cart.mapper.number ∧
      (s.cart.chrBanks ≠ 0 → t.cart.chr = s.cart.chr) ∧ t.ctl.buttons = s.ctl.buttons
end

