-- ==== Sys2Proof/Laws/Memory.lean ====
section
/-! SUPPORT. The laws of a canonical memory: read after write, writes elsewhere, and that every memory operation keeps
the canonical form and the bound. -/

namespace Sys2Proof.Machine

variable {w : Nat}

@[simp] theorem read_nil (i : Nat) : Cells.read ([] : Cells w) i = 0 := rfl

theorem read_erase (m : Cells w) (i j : Nat) : Cells.read (Cells.erase m i) j = if i = j then 0 else Cells.read m j := by
  induction m with
  | nil => simp [Cells.erase]
  | cons c rest ih =>
    obtain ⟨k, v⟩ := c
    simp only [Cells.erase]
    split
    · rename_i h
      subst h
      rw [ih]
      split <;> simp_all [Cells.read]
    · rename_i h
      simp only [Cells.read, ih]
      split
      · rename_i hkj
        rw [if_neg fun h' => h (hkj.trans h'.symm)]
      · rfl

theorem read_insert (m : Cells w) (i j : Nat) (x : BitVec w) (h : ∀ c ∈ m, c.1 ≠ i) :
    Cells.read (Cells.insert m i x) j = if i = j then x else Cells.read m j := by
  induction m with
  | nil => simp [Cells.insert, Cells.read]
  | cons c rest ih =>
    obtain ⟨k, v⟩ := c
    have hk : k ≠ i := h (k, v) (by simp)
    simp only [Cells.insert]
    split
    · simp [Cells.read]
    · simp only [Cells.read, ih fun c hc => h c (List.mem_cons_of_mem _ hc)]
      split
      · rename_i hkj
        rw [if_neg fun h' => hk (hkj.trans h'.symm)]
      · rfl

theorem erase_no_key (m : Cells w) (i : Nat) : ∀ c ∈ Cells.erase m i, c.1 ≠ i := by
  induction m with
  | nil => simp [Cells.erase]
  | cons c rest ih =>
    obtain ⟨k, v⟩ := c
    simp only [Cells.erase]
    split
    · exact ih
    · intro c hc
      rcases List.mem_cons.mp hc with rfl | hc
      · assumption
      · exact ih c hc

/-- A read after a write gives the value written to that cell, and what was there in every other cell. -/
theorem read_write (m : Cells w) (i j : Nat) (x : BitVec w) :
    Cells.read (Cells.write m i x) j = if i = j then x else Cells.read m j := by
  simp only [Cells.write]
  split
  · rename_i h
    rw [read_erase, h]
  · rw [read_insert _ _ _ _ (erase_no_key m i), read_erase]
    split <;> rfl

@[simp] theorem read_write_same (m : Cells w) (i : Nat) (x : BitVec w) : Cells.read (Cells.write m i x) i = x := by
  simp [read_write]

theorem read_write_other (m : Cells w) {i j : Nat} (x : BitVec w) (h : i ≠ j) :
    Cells.read (Cells.write m i x) j = Cells.read m j := by
  simp [read_write, h]

theorem rising_mono {lo lo' : Nat} (h : lo ≤ lo') : ∀ {m : Cells w}, Cells.rising lo' m = true → Cells.rising lo m = true
  | [], _ => rfl
  | (k, v) :: rest, hm => by
    simp only [Cells.rising, Bool.and_eq_true, decide_eq_true_eq] at hm ⊢
    exact ⟨⟨Nat.le_trans h hm.1.1, hm.1.2⟩, hm.2⟩

theorem rising_erase (i : Nat) : ∀ (lo : Nat) (m : Cells w), Cells.rising lo m = true →
    Cells.rising lo (Cells.erase m i) = true
  | _, [], _ => rfl
  | lo, (k, v) :: rest, hm => by
    simp only [Cells.rising, Bool.and_eq_true, decide_eq_true_eq] at hm
    have ih := rising_erase i (k + 1) rest hm.2
    simp only [Cells.erase]
    split
    · exact rising_mono (by omega) ih
    · simp only [Cells.rising, Bool.and_eq_true, decide_eq_true_eq]
      exact ⟨hm.1, ih⟩

theorem rising_insert (i : Nat) (x : BitVec w) (hx : x ≠ 0) : ∀ (lo : Nat) (m : Cells w), lo ≤ i →
    (∀ c ∈ m, c.1 ≠ i) → Cells.rising lo m = true → Cells.rising lo (Cells.insert m i x) = true
  | lo, [], hlo, _, _ => by
    simp only [Cells.insert, Cells.rising, Bool.and_eq_true, decide_eq_true_eq, and_true]
    exact ⟨hlo, hx⟩
  | lo, (k, v) :: rest, hlo, hne, hm => by
    simp only [Cells.rising, Bool.and_eq_true, decide_eq_true_eq] at hm
    have hk : k ≠ i := hne (k, v) (by simp)
    simp only [Cells.insert]
    split
    · rename_i h
      simp only [Cells.rising, Bool.and_eq_true, decide_eq_true_eq]
      exact ⟨⟨hlo, hx⟩, ⟨h, hm.1.2⟩, hm.2⟩
    · have ih := rising_insert i x hx (k + 1) rest (by omega)
        (fun c hc => hne c (List.mem_cons_of_mem _ hc)) hm.2
      simp only [Cells.rising, Bool.and_eq_true, decide_eq_true_eq]
      exact ⟨hm.1, ih⟩

/-- Every write keeps the canonical form. -/
theorem write_wf {m : Cells w} (i : Nat) (x : BitVec w) (h : Cells.wf m = true) :
    Cells.wf (Cells.write m i x) = true := by
  simp only [Cells.wf, Cells.write] at *
  split
  · exact rising_erase i 0 m h
  · rename_i hx
    exact rising_insert i x hx 0 _ (Nat.zero_le i) (erase_no_key m i) (rising_erase i 0 m h)

/-- Every memory of the reset state has the canonical form. -/
theorem reset_wf : Memory.wf State.reset.ram = true ∧ Memory.wf State.reset.cart.prgRam = true ∧
    Memory.wf State.reset.cart.prg = true ∧ Memory.wf State.reset.cart.chr = true ∧
    Memory.wf State.reset.ppu.nt = true ∧ Memory.wf State.reset.ppu.pal = true ∧
    Memory.wf State.reset.ppu.oam = true ∧ Cells.wf State.reset.ppu.fb = true :=
  ⟨rfl, rfl, rfl, rfl, rfl, rfl, rfl, rfl⟩

theorem erase_within {n : Nat} (i : Nat) : ∀ {m : Cells w}, Cells.within n m = true →
    Cells.within n (Cells.erase m i) = true
  | [], _ => rfl
  | (k, v) :: rest, h => by
    simp only [Cells.within, List.all_cons, Bool.and_eq_true] at h
    simp only [Cells.erase]
    split
    · exact erase_within i h.2
    · simp only [Cells.within, List.all_cons, Bool.and_eq_true]
      exact ⟨h.1, erase_within i h.2⟩

theorem insert_within {n i : Nat} (x : BitVec w) (hi : i < n) : ∀ {m : Cells w}, Cells.within n m = true →
    Cells.within n (Cells.insert m i x) = true
  | [], _ => by simp [Cells.insert, Cells.within, hi]
  | (k, v) :: rest, h => by
    simp only [Cells.within, List.all_cons, Bool.and_eq_true] at h
    simp only [Cells.insert]
    split
    · simp only [Cells.within, List.all_cons, Bool.and_eq_true]
      exact ⟨decide_eq_true hi, h.1, h.2⟩
    · simp only [Cells.within, List.all_cons, Bool.and_eq_true]
      exact ⟨h.1, insert_within x hi h.2⟩

/-- A write within the bound keeps the form and the bound. -/
theorem write_ok {n i : Nat} {m : Cells w} (x : BitVec w) (hi : i < n) (h : Cells.ok n m = true) :
    Cells.ok n (Cells.write m i x) = true := by
  simp only [Cells.ok, Bool.and_eq_true] at h ⊢
  refine ⟨write_wf i x h.1, ?_⟩
  simp only [Cells.write]
  split
  · exact erase_within i h.2
  · exact insert_within x hi (erase_within i h.2)

@[simp] theorem nil_ok (n : Nat) : Cells.ok n ([] : Cells w) = true := rfl

theorem ofValues_rising : ∀ (start : Nat) (l : List (BitVec w)), Cells.rising start (Cells.ofValues start l) = true
  | _, [] => rfl
  | start, v :: rest => by
    have ih := ofValues_rising (start + 1) rest
    simp only [Cells.ofValues]
    split
    · exact rising_mono (by omega) ih
    · simp_all [Cells.rising]

theorem ofValues_within (n : Nat) : ∀ (start : Nat) (l : List (BitVec w)), start + l.length ≤ n →
    Cells.within n (Cells.ofValues start l) = true
  | _, [], _ => rfl
  | start, v :: rest, h => by
    rw [List.length_cons] at h
    have ih := ofValues_within n (start + 1) rest (by omega)
    simp only [Cells.ofValues]
    split
    · exact ih
    · simp only [Cells.within, List.all_cons, Bool.and_eq_true]
      exact ⟨decide_eq_true (by omega), ih⟩

/-- A memory built from a list of values is canonical and has no more cells than the list has values. -/
theorem ofValues_ok {n : Nat} (l : List (BitVec w)) (h : l.length ≤ n) : Cells.ok n (Cells.ofValues 0 l) = true := by
  simp only [Cells.ok, Bool.and_eq_true]
  exact ⟨ofValues_rising 0 l, ofValues_within n 0 l (by omega)⟩

/-- Cell i of a memory built from a list is the list's i-th value, and 0 past its end. -/
theorem read_ofValues : ∀ (start : Nat) (l : List (BitVec w)) (i : Nat), start ≤ i →
    Cells.read (Cells.ofValues start l) i = l.getD (i - start) 0
  | _, [], _, _ => rfl
  | start, v :: rest, i, h => by
    simp only [Cells.ofValues]
    by_cases hi : start = i
    · subst hi
      split
      · rename_i hv
        subst hv
        have hr : ∀ (s : Nat) (l : List (BitVec w)), start < s → Cells.read (Cells.ofValues s l) start = 0 := by
          intro s l
          induction l generalizing s with
          | nil => intro _; rfl
          | cons v rest ih =>
            intro hs
            simp only [Cells.ofValues]
            split
            · exact ih (s + 1) (by omega)
            · simp only [Cells.read, show ¬s = start by omega, if_false]
              exact ih (s + 1) (by omega)
        simp [hr (start + 1) rest (by omega)]
      · simp [Cells.read]
    · have hlt : start + 1 ≤ i := by omega
      have ih := read_ofValues (start + 1) rest i hlt
      have hsub : i - start = (i - (start + 1)) + 1 := by omega
      split
      · rw [ih, hsub, List.getD_cons_succ]
      · rw [Cells.read, if_neg hi, ih, hsub, List.getD_cons_succ]

/-! ### Bits of a byte -/

/-- `setBit` changes the one bit. -/
theorem getLsbD_setBit (byte : Byte) (i k : Nat) (b : Bool) (hi : i < 8) :
    (setBit byte i b).getLsbD k = if k = i then b else byte.getLsbD k := by
  have hi' : i = 0 ∨ i = 1 ∨ i = 2 ∨ i = 3 ∨ i = 4 ∨ i = 5 ∨ i = 6 ∨ i = 7 := by omega
  by_cases hk : k < 8
  · have hk' : k = 0 ∨ k = 1 ∨ k = 2 ∨ k = 3 ∨ k = 4 ∨ k = 5 ∨ k = 6 ∨ k = 7 := by omega
    rcases hi' with rfl | rfl | rfl | rfl | rfl | rfl | rfl | rfl <;>
      rcases hk' with rfl | rfl | rfl | rfl | rfl | rfl | rfl | rfl <;> cases b <;>
      simp [setBit]
  · have hki : k ≠ i := by omega
    rw [if_neg hki, BitVec.getLsbD_of_ge _ k (Nat.le_of_not_lt hk), BitVec.getLsbD_of_ge _ k (Nat.le_of_not_lt hk)]

/-- Splitting a word and joining it again. -/
theorem hiLo_high_low (a : Word) : hiLo (highByte a) (lowByte a) = a := by
  apply BitVec.eq_of_getLsbD_eq
  intro i hi
  simp only [hiLo, highByte, lowByte, BitVec.getLsbD_append, BitVec.getLsbD_setWidth, BitVec.getLsbD_ushiftRight]
  by_cases h : i < 8
  · simp [h]
  · simp [h, show i - 8 < 8 by omega, show 8 + (i - 8) = i by omega]

@[simp] theorem highByte_hiLo (hi lo : Byte) : highByte (hiLo hi lo) = hi := by
  apply BitVec.eq_of_getLsbD_eq
  intro i hi
  simp only [hiLo, highByte, BitVec.getLsbD_append, BitVec.getLsbD_setWidth, BitVec.getLsbD_ushiftRight]
  simp [hi]

@[simp] theorem lowByte_hiLo (hi lo : Byte) : lowByte (hiLo hi lo) = lo := by
  apply BitVec.eq_of_getLsbD_eq
  intro i hi
  simp only [hiLo, lowByte, BitVec.getLsbD_append, BitVec.getLsbD_setWidth]
  simp [hi]

/-- `hi : lo` as a number (R12). -/
theorem hiLo_toNat (hi lo : Byte) : (hiLo hi lo).toNat = 256 * hi.toNat + lo.toNat := by
  simp only [hiLo, BitVec.toNat_append]
  rw [← Nat.shiftLeft_add_eq_or_of_lt lo.isLt, Nat.shiftLeft_eq, Nat.mul_comm]

end Sys2Proof.Machine
end

