-- ==== Sys2Proof/Laws/State.lean ====
section
/-! SUPPORT. For each named update of State one lemma per field, so that no later proof unfolds a record update. -/

namespace Sys2Proof.Machine

/-! ### setC -/

@[simp] theorem setC_a (b : Bool) (s : State) : (setC b s).a = s.a := rfl
@[simp] theorem setC_x (b : Bool) (s : State) : (setC b s).x = s.x := rfl
@[simp] theorem setC_y (b : Bool) (s : State) : (setC b s).y = s.y := rfl
@[simp] theorem setC_sp (b : Bool) (s : State) : (setC b s).sp = s.sp := rfl
@[simp] theorem setC_p (b : Bool) (s : State) : (setC b s).p = setBit s.p 0 b := rfl
@[simp] theorem setC_pc (b : Bool) (s : State) : (setC b s).pc = s.pc := rfl
@[simp] theorem setC_cycles (b : Bool) (s : State) : (setC b s).cycles = s.cycles := rfl
@[simp] theorem setC_fault (b : Bool) (s : State) : (setC b s).fault = s.fault := rfl
@[simp] theorem setC_ram (b : Bool) (s : State) : (setC b s).ram = s.ram := rfl
@[simp] theorem setC_ctl (b : Bool) (s : State) : (setC b s).ctl = s.ctl := rfl
@[simp] theorem setC_ppu (b : Bool) (s : State) : (setC b s).ppu = s.ppu := rfl
@[simp] theorem setC_apu (b : Bool) (s : State) : (setC b s).apu = s.apu := rfl
@[simp] theorem setC_cart (b : Bool) (s : State) : (setC b s).cart = s.cart := rfl
@[simp] theorem setC_cfg (b : Bool) (s : State) : (setC b s).cfg = s.cfg := rfl
@[simp] theorem setC_draws (b : Bool) (s : State) : (setC b s).draws = s.draws := rfl
@[simp] theorem setC_samples (b : Bool) (s : State) : (setC b s).samples = s.samples := rfl

/-! ### setI -/

@[simp] theorem setI_a (b : Bool) (s : State) : (setI b s).a = s.a := rfl
@[simp] theorem setI_x (b : Bool) (s : State) : (setI b s).x = s.x := rfl
@[simp] theorem setI_y (b : Bool) (s : State) : (setI b s).y = s.y := rfl
@[simp] theorem setI_sp (b : Bool) (s : State) : (setI b s).sp = s.sp := rfl
@[simp] theorem setI_p (b : Bool) (s : State) : (setI b s).p = setBit s.p 2 b := rfl
@[simp] theorem setI_pc (b : Bool) (s : State) : (setI b s).pc = s.pc := rfl
@[simp] theorem setI_cycles (b : Bool) (s : State) : (setI b s).cycles = s.cycles := rfl
@[simp] theorem setI_fault (b : Bool) (s : State) : (setI b s).fault = s.fault := rfl
@[simp] theorem setI_ram (b : Bool) (s : State) : (setI b s).ram = s.ram := rfl
@[simp] theorem setI_ctl (b : Bool) (s : State) : (setI b s).ctl = s.ctl := rfl
@[simp] theorem setI_ppu (b : Bool) (s : State) : (setI b s).ppu = s.ppu := rfl
@[simp] theorem setI_apu (b : Bool) (s : State) : (setI b s).apu = s.apu := rfl
@[simp] theorem setI_cart (b : Bool) (s : State) : (setI b s).cart = s.cart := rfl
@[simp] theorem setI_cfg (b : Bool) (s : State) : (setI b s).cfg = s.cfg := rfl
@[simp] theorem setI_draws (b : Bool) (s : State) : (setI b s).draws = s.draws := rfl
@[simp] theorem setI_samples (b : Bool) (s : State) : (setI b s).samples = s.samples := rfl

/-! ### setD -/

@[simp] theorem setD_a (b : Bool) (s : State) : (setD b s).a = s.a := rfl
@[simp] theorem setD_x (b : Bool) (s : State) : (setD b s).x = s.x := rfl
@[simp] theorem setD_y (b : Bool) (s : State) : (setD b s).y = s.y := rfl
@[simp] theorem setD_sp (b : Bool) (s : State) : (setD b s).sp = s.sp := rfl
@[simp] theorem setD_p (b : Bool) (s : State) : (setD b s).p = setBit s.p 3 b := rfl
@[simp] theorem setD_pc (b : Bool) (s : State) : (setD b s).pc = s.pc := rfl
@[simp] theorem setD_cycles (b : Bool) (s : State) : (setD b s).cycles = s.cycles := rfl
@[simp] theorem setD_fault (b : Bool) (s : State) : (setD b s).fault = s.fault := rfl
@[simp] theorem setD_ram (b : Bool) (s : State) : (setD b s).ram = s.ram := rfl
@[simp] theorem setD_ctl (b : Bool) (s : State) : (setD b s).ctl = s.ctl := rfl
@[simp] theorem setD_ppu (b : Bool) (s : State) : (setD b s).ppu = s.ppu := rfl
@[simp] theorem setD_apu (b : Bool) (s : State) : (setD b s).apu = s.apu := rfl
@[simp] theorem setD_cart (b : Bool) (s : State) : (setD b s).cart = s.cart := rfl
@[simp] theorem setD_cfg (b : Bool) (s : State) : (setD b s).cfg = s.cfg := rfl
@[simp] theorem setD_draws (b : Bool) (s : State) : (setD b s).draws = s.draws := rfl
@[simp] theorem setD_samples (b : Bool) (s : State) : (setD b s).samples = s.samples := rfl

/-! ### setV -/

@[simp] theorem setV_a (b : Bool) (s : State) : (setV b s).a = s.a := rfl
@[simp] theorem setV_x (b : Bool) (s : State) : (setV b s).x = s.x := rfl
@[simp] theorem setV_y (b : Bool) (s : State) : (setV b s).y = s.y := rfl
@[simp] theorem setV_sp (b : Bool) (s : State) : (setV b s).sp = s.sp := rfl
@[simp] theorem setV_p (b : Bool) (s : State) : (setV b s).p = setBit s.p 6 b := rfl
@[simp] theorem setV_pc (b : Bool) (s : State) : (setV b s).pc = s.pc := rfl
@[simp] theorem setV_cycles (b : Bool) (s : State) : (setV b s).cycles = s.cycles := rfl
@[simp] theorem setV_fault (b : Bool) (s : State) : (setV b s).fault = s.fault := rfl
@[simp] theorem setV_ram (b : Bool) (s : State) : (setV b s).ram = s.ram := rfl
@[simp] theorem setV_ctl (b : Bool) (s : State) : (setV b s).ctl = s.ctl := rfl
@[simp] theorem setV_ppu (b : Bool) (s : State) : (setV b s).ppu = s.ppu := rfl
@[simp] theorem setV_apu (b : Bool) (s : State) : (setV b s).apu = s.apu := rfl
@[simp] theorem setV_cart (b : Bool) (s : State) : (setV b s).cart = s.cart := rfl
@[simp] theorem setV_cfg (b : Bool) (s : State) : (setV b s).cfg = s.cfg := rfl
@[simp] theorem setV_draws (b : Bool) (s : State) : (setV b s).draws = s.draws := rfl
@[simp] theorem setV_samples (b : Bool) (s : State) : (setV b s).samples = s.samples := rfl

/-! ### setZN -/

@[simp] theorem setZN_a (r : Byte) (s : State) : (setZN r s).a = s.a := rfl
@[simp] theorem setZN_x (r : Byte) (s : State) : (setZN r s).x = s.x := rfl
@[simp] theorem setZN_y (r : Byte) (s : State) : (setZN r s).y = s.y := rfl
@[simp] theorem setZN_sp (r : Byte) (s : State) : (setZN r s).sp = s.sp := rfl
@[simp] theorem setZN_p (r : Byte) (s : State) : (setZN r s).p = setBit (setBit s.p 1 (r == 0)) 7 (r.getLsbD 7) := rfl
@[simp] theorem setZN_pc (r : Byte) (s : State) : (setZN r s).pc = s.pc := rfl
@[simp] theorem setZN_cycles (r : Byte) (s : State) : (setZN r s).cycles = s.cycles := rfl
@[simp] theorem setZN_fault (r : Byte) (s : State) : (setZN r s).fault = s.fault := rfl
@[simp] theorem setZN_ram (r : Byte) (s : State) : (setZN r s).ram = s.ram := rfl
@[simp] theorem setZN_ctl (r : Byte) (s : State) : (setZN r s).ctl = s.ctl := rfl
@[simp] theorem setZN_ppu (r : Byte) (s : State) : (setZN r s).ppu = s.ppu := rfl
@[simp] theorem setZN_apu (r : Byte) (s : State) : (setZN r s).apu = s.apu := rfl
@[simp] theorem setZN_cart (r : Byte) (s : State) : (setZN r s).cart = s.cart := rfl
@[simp] theorem setZN_cfg (r : Byte) (s : State) : (setZN r s).cfg = s.cfg := rfl
@[simp] theorem setZN_draws (r : Byte) (s : State) : (setZN r s).draws = s.draws := rfl
@[simp] theorem setZN_samples (r : Byte) (s : State) : (setZN r s).samples = s.samples := rfl

/-! ### loadA -/

@[simp] theorem loadA_a (r : Byte) (s : State) : (loadA r s).a = r := rfl
@[simp] theorem loadA_x (r : Byte) (s : State) : (loadA r s).x = s.x := rfl
@[simp] theorem loadA_y (r : Byte) (s : State) : (loadA r s).y = s.y := rfl
@[simp] theorem loadA_sp (r : Byte) (s : State) : (loadA r s).sp = s.sp := rfl
@[simp] theorem loadA_p (r : Byte) (s : State) : (loadA r s).p = (setZN r s).p := rfl
@[simp] theorem loadA_pc (r : Byte) (s : State) : (loadA r s).pc = s.pc := rfl
@[simp] theorem loadA_cycles (r : Byte) (s : State) : (loadA r s).cycles = s.cycles := rfl
@[simp] theorem loadA_fault (r : Byte) (s : State) : (loadA r s).fault = s.fault := rfl
@[simp] theorem loadA_ram (r : Byte) (s : State) : (loadA r s).ram = s.ram := rfl
@[simp] theorem loadA_ctl (r : Byte) (s : State) : (loadA r s).ctl = s.ctl := rfl
@[simp] theorem loadA_ppu (r : Byte) (s : State) : (loadA r s).ppu = s.ppu := rfl
@[simp] theorem loadA_apu (r : Byte) (s : State) : (loadA r s).apu = s.apu := rfl
@[simp] theorem loadA_cart (r : Byte) (s : State) : (loadA r s).cart = s.cart := rfl
@[simp] theorem loadA_cfg (r : Byte) (s : State) : (loadA r s).cfg = s.cfg := rfl
@[simp] theorem loadA_draws (r : Byte) (s : State) : (loadA r s).draws = s.draws := rfl
@[simp] theorem loadA_samples (r : Byte) (s : State) : (loadA r s).samples = s.samples := rfl

/-! ### loadX -/

@[simp] theorem loadX_a (r : Byte) (s : State) : (loadX r s).a = s.a := rfl
@[simp] theorem loadX_x (r : Byte) (s : State) : (loadX r s).x = r := rfl
@[simp] theorem loadX_y (r : Byte) (s : State) : (loadX r s).y = s.y := rfl
@[simp] theorem loadX_sp (r : Byte) (s : State) : (loadX r s).sp = s.sp := rfl
@[simp] theorem loadX_p (r : Byte) (s : State) : (loadX r s).p = (setZN r s).p := rfl
@[simp] theorem loadX_pc (r : Byte) (s : State) : (loadX r s).pc = s.pc := rfl
@[simp] theorem loadX_cycles (r : Byte) (s : State) : (loadX r s).cycles = s.cycles := rfl
@[simp] theorem loadX_fault (r : Byte) (s : State) : (loadX r s).fault = s.fault := rfl
@[simp] theorem loadX_ram (r : Byte) (s : State) : (loadX r s).ram = s.ram := rfl
@[simp] theorem loadX_ctl (r : Byte) (s : State) : (loadX r s).ctl = s.ctl := rfl
@[simp] theorem loadX_ppu (r : Byte) (s : State) : (loadX r s).ppu = s.ppu := rfl
@[simp] theorem loadX_apu (r : Byte) (s : State) : (loadX r s).apu = s.apu := rfl
@[simp] theorem loadX_cart (r : Byte) (s : State) : (loadX r s).cart = s.cart := rfl
@[simp] theorem loadX_cfg (r : Byte) (s : State) : (loadX r s).cfg = s.cfg := rfl
@[simp] theorem loadX_draws (r : Byte) (s : State) : (loadX r s).draws = s.draws := rfl
@[simp] theorem loadX_samples (r : Byte) (s : State) : (loadX r s).samples = s.samples := rfl

/-! ### loadY -/

@[simp] theorem loadY_a (r : Byte) (s : State) : (loadY r s).a = s.a := rfl
@[simp] theorem loadY_x (r : Byte) (s : State) : (loadY r s).x = s.x := rfl
@[simp] theorem loadY_y (r : Byte) (s : State) : (loadY r s).y = r := rfl
@[simp] theorem loadY_sp (r : Byte) (s : State) : (loadY r s).sp = s.sp := rfl
@[simp] theorem loadY_p (r : Byte) (s : State) : (loadY r s).p = (setZN r s).p := rfl
@[simp] theorem loadY_pc (r : Byte) (s : State) : (loadY r s).pc = s.pc := rfl
@[simp] theorem loadY_cycles (r : Byte) (s : State) : (loadY r s).cycles = s.cycles := rfl
@[simp] theorem loadY_fault (r : Byte) (s : State) : (loadY r s).fault = s.fault := rfl
@[simp] theorem loadY_ram (r : Byte) (s : State) : (loadY r s).ram = s.ram := rfl
@[simp] theorem loadY_ctl (r : Byte) (s : State) : (loadY r s).ctl = s.ctl := rfl
@[simp] theorem loadY_ppu (r : Byte) (s : State) : (loadY r s).ppu = s.ppu := rfl
@[simp] theorem loadY_apu (r : Byte) (s : State) : (loadY r s).apu = s.apu := rfl
@[simp] theorem loadY_cart (r : Byte) (s : State) : (loadY r s).cart = s.cart := rfl
@[simp] theorem loadY_cfg (r : Byte) (s : State) : (loadY r s).cfg = s.cfg := rfl
@[simp] theorem loadY_draws (r : Byte) (s : State) : (loadY r s).draws = s.draws := rfl
@[simp] theorem loadY_samples (r : Byte) (s : State) : (loadY r s).samples = s.samples := rfl

/-! ### loadAX -/

@[simp] theorem loadAX_a (r : Byte) (s : State) : (loadAX r s).a = r := rfl
@[simp] theorem loadAX_x (r : Byte) (s : State) : (loadAX r s).x = r := rfl
@[simp] theorem loadAX_y (r : Byte) (s : State) : (loadAX r s).y = s.y := rfl
@[simp] theorem loadAX_sp (r : Byte) (s : State) : (loadAX r s).sp = s.sp := rfl
@[simp] theorem loadAX_p (r : Byte) (s : State) : (loadAX r s).p = (setZN r s).p := rfl
@[simp] theorem loadAX_pc (r : Byte) (s : State) : (loadAX r s).pc = s.pc := rfl
@[simp] theorem loadAX_cycles (r : Byte) (s : State) : (loadAX r s).cycles = s.cycles := rfl
@[simp] theorem loadAX_fault (r : Byte) (s : State) : (loadAX r s).fault = s.fault := rfl
@[simp] theorem loadAX_ram (r : Byte) (s : State) : (loadAX r s).ram = s.ram := rfl
@[simp] theorem loadAX_ctl (r : Byte) (s : State) : (loadAX r s).ctl = s.ctl := rfl
@[simp] theorem loadAX_ppu (r : Byte) (s : State) : (loadAX r s).ppu = s.ppu := rfl
@[simp] theorem loadAX_apu (r : Byte) (s : State) : (loadAX r s).apu = s.apu := rfl
@[simp] theorem loadAX_cart (r : Byte) (s : State) : (loadAX r s).cart = s.cart := rfl
@[simp] theorem loadAX_cfg (r : Byte) (s : State) : (loadAX r s).cfg = s.cfg := rfl
@[simp] theorem loadAX_draws (r : Byte) (s : State) : (loadAX r s).draws = s.draws := rfl
@[simp] theorem loadAX_samples (r : Byte) (s : State) : (loadAX r s).samples = s.samples := rfl

/-! ### testBits -/

@[simp] theorem testBits_a (m : Byte) (s : State) : (testBits m s).a = s.a := rfl
@[simp] theorem testBits_x (m : Byte) (s : State) : (testBits m s).x = s.x := rfl
@[simp] theorem testBits_y (m : Byte) (s : State) : (testBits m s).y = s.y := rfl
@[simp] theorem testBits_sp (m : Byte) (s : State) : (testBits m s).sp = s.sp := rfl
@[simp] theorem testBits_pc (m : Byte) (s : State) : (testBits m s).pc = s.pc := rfl
@[simp] theorem testBits_cycles (m : Byte) (s : State) : (testBits m s).cycles = s.cycles := rfl
@[simp] theorem testBits_fault (m : Byte) (s : State) : (testBits m s).fault = s.fault := rfl
@[simp] theorem testBits_ram (m : Byte) (s : State) : (testBits m s).ram = s.ram := rfl
@[simp] theorem testBits_ctl (m : Byte) (s : State) : (testBits m s).ctl = s.ctl := rfl
@[simp] theorem testBits_ppu (m : Byte) (s : State) : (testBits m s).ppu = s.ppu := rfl
@[simp] theorem testBits_apu (m : Byte) (s : State) : (testBits m s).apu = s.apu := rfl
@[simp] theorem testBits_cart (m : Byte) (s : State) : (testBits m s).cart = s.cart := rfl
@[simp] theorem testBits_cfg (m : Byte) (s : State) : (testBits m s).cfg = s.cfg := rfl
@[simp] theorem testBits_draws (m : Byte) (s : State) : (testBits m s).draws = s.draws := rfl
@[simp] theorem testBits_samples (m : Byte) (s : State) : (testBits m s).samples = s.samples := rfl

/-! ### compare -/

@[simp] theorem compare_a (reg m : Byte) (s : State) : (compare reg m s).a = s.a := rfl
@[simp] theorem compare_x (reg m : Byte) (s : State) : (compare reg m s).x = s.x := rfl
@[simp] theorem compare_y (reg m : Byte) (s : State) : (compare reg m s).y = s.y := rfl
@[simp] theorem compare_sp (reg m : Byte) (s : State) : (compare reg m s).sp = s.sp := rfl
@[simp] theorem compare_p (reg m : Byte) (s : State) : (compare reg m s).p = (setZN (reg - m) (setC (decide (m.toNat ≤ reg.toNat)) s)).p := rfl
@[simp] theorem compare_pc (reg m : Byte) (s : State) : (compare reg m s).pc = s.pc := rfl
@[simp] theorem compare_cycles (reg m : Byte) (s : State) : (compare reg m s).cycles = s.cycles := rfl
@[simp] theorem compare_fault (reg m : Byte) (s : State) : (compare reg m s).fault = s.fault := rfl
@[simp] theorem compare_ram (reg m : Byte) (s : State) : (compare reg m s).ram = s.ram := rfl
@[simp] theorem compare_ctl (reg m : Byte) (s : State) : (compare reg m s).ctl = s.ctl := rfl
@[simp] theorem compare_ppu (reg m : Byte) (s : State) : (compare reg m s).ppu = s.ppu := rfl
@[simp] theorem compare_apu (reg m : Byte) (s : State) : (compare reg m s).apu = s.apu := rfl
@[simp] theorem compare_cart (reg m : Byte) (s : State) : (compare reg m s).cart = s.cart := rfl
@[simp] theorem compare_cfg (reg m : Byte) (s : State) : (compare reg m s).cfg = s.cfg := rfl
@[simp] theorem compare_draws (reg m : Byte) (s : State) : (compare reg m s).draws = s.draws := rfl
@[simp] theorem compare_samples (reg m : Byte) (s : State) : (compare reg m s).samples = s.samples := rfl

/-! ### addCore -/

@[simp] theorem addCore_a (m : Byte) (s : State) : (addCore m s).a = BitVec.ofNat 8 (s.a.toNat + m.toNat + bit s.c) := rfl
@[simp] theorem addCore_x (m : Byte) (s : State) : (addCore m s).x = s.x := rfl
@[simp] theorem addCore_y (m : Byte) (s : State) : (addCore m s).y = s.y := rfl
@[simp] theorem addCore_sp (m : Byte) (s : State) : (addCore m s).sp = s.sp := rfl
@[simp] theorem addCore_pc (m : Byte) (s : State) : (addCore m s).pc = s.pc := rfl
@[simp] theorem addCore_cycles (m : Byte) (s : State) : (addCore m s).cycles = s.cycles := rfl
@[simp] theorem addCore_fault (m : Byte) (s : State) : (addCore m s).fault = s.fault := rfl
@[simp] theorem addCore_ram (m : Byte) (s : State) : (addCore m s).ram = s.ram := rfl
@[simp] theorem addCore_ctl (m : Byte) (s : State) : (addCore m s).ctl = s.ctl := rfl
@[simp] theorem addCore_ppu (m : Byte) (s : State) : (addCore m s).ppu = s.ppu := rfl
@[simp] theorem addCore_apu (m : Byte) (s : State) : (addCore m s).apu = s.apu := rfl
@[simp] theorem addCore_cart (m : Byte) (s : State) : (addCore m s).cart = s.cart := rfl
@[simp] theorem addCore_cfg (m : Byte) (s : State) : (addCore m s).cfg = s.cfg := rfl
@[simp] theorem addCore_draws (m : Byte) (s : State) : (addCore m s).draws = s.draws := rfl
@[simp] theorem addCore_samples (m : Byte) (s : State) : (addCore m s).samples = s.samples := rfl

/-! ### subCore -/

@[simp] theorem subCore_a (m : Byte) (s : State) : (subCore m s).a = BitVec.ofNat 8 (s.a.toNat + (m ^^^ 0xFF).toNat + bit s.c) := rfl
@[simp] theorem subCore_x (m : Byte) (s : State) : (subCore m s).x = s.x := rfl
@[simp] theorem subCore_y (m : Byte) (s : State) : (subCore m s).y = s.y := rfl
@[simp] theorem subCore_sp (m : Byte) (s : State) : (subCore m s).sp = s.sp := rfl
@[simp] theorem subCore_pc (m : Byte) (s : State) : (subCore m s).pc = s.pc := rfl
@[simp] theorem subCore_cycles (m : Byte) (s : State) : (subCore m s).cycles = s.cycles := rfl
@[simp] theorem subCore_fault (m : Byte) (s : State) : (subCore m s).fault = s.fault := rfl
@[simp] theorem subCore_ram (m : Byte) (s : State) : (subCore m s).ram = s.ram := rfl
@[simp] theorem subCore_ctl (m : Byte) (s : State) : (subCore m s).ctl = s.ctl := rfl
@[simp] theorem subCore_ppu (m : Byte) (s : State) : (subCore m s).ppu = s.ppu := rfl
@[simp] theorem subCore_apu (m : Byte) (s : State) : (subCore m s).apu = s.apu := rfl
@[simp] theorem subCore_cart (m : Byte) (s : State) : (subCore m s).cart = s.cart := rfl
@[simp] theorem subCore_cfg (m : Byte) (s : State) : (subCore m s).cfg = s.cfg := rfl
@[simp] theorem subCore_draws (m : Byte) (s : State) : (subCore m s).draws = s.draws := rfl
@[simp] theorem subCore_samples (m : Byte) (s : State) : (subCore m s).samples = s.samples := rfl

/-! ### spend -/

@[simp] theorem spend_a (k : Nat) (s : State) : (spend k s).a = s.a := rfl
@[simp] theorem spend_x (k : Nat) (s : State) : (spend k s).x = s.x := rfl
@[simp] theorem spend_y (k : Nat) (s : State) : (spend k s).y = s.y := rfl
@[simp] theorem spend_sp (k : Nat) (s : State) : (spend k s).sp = s.sp := rfl
@[simp] theorem spend_p (k : Nat) (s : State) : (spend k s).p = s.p := rfl
@[simp] theorem spend_pc (k : Nat) (s : State) : (spend k s).pc = s.pc := rfl
@[simp] theorem spend_cycles (k : Nat) (s : State) : (spend k s).cycles = s.cycles + k := rfl
@[simp] theorem spend_fault (k : Nat) (s : State) : (spend k s).fault = s.fault := rfl
@[simp] theorem spend_ram (k : Nat) (s : State) : (spend k s).ram = s.ram := rfl
@[simp] theorem spend_ctl (k : Nat) (s : State) : (spend k s).ctl = s.ctl := rfl
@[simp] theorem spend_ppu (k : Nat) (s : State) : (spend k s).ppu = s.ppu := rfl
@[simp] theorem spend_apu (k : Nat) (s : State) : (spend k s).apu = s.apu := rfl
@[simp] theorem spend_cart (k : Nat) (s : State) : (spend k s).cart = s.cart := rfl
@[simp] theorem spend_cfg (k : Nat) (s : State) : (spend k s).cfg = s.cfg := rfl
@[simp] theorem spend_draws (k : Nat) (s : State) : (spend k s).draws = s.draws := rfl
@[simp] theorem spend_samples (k : Nat) (s : State) : (spend k s).samples = s.samples := rfl

/-! ### raiseFatal -/

@[simp] theorem raiseFatal_a (op : Byte) (s : State) : (raiseFatal op s).a = s.a := rfl
@[simp] theorem raiseFatal_x (op : Byte) (s : State) : (raiseFatal op s).x = s.x := rfl
@[simp] theorem raiseFatal_y (op : Byte) (s : State) : (raiseFatal op s).y = s.y := rfl
@[simp] theorem raiseFatal_sp (op : Byte) (s : State) : (raiseFatal op s).sp = s.sp := rfl
@[simp] theorem raiseFatal_p (op : Byte) (s : State) : (raiseFatal op s).p = s.p := rfl
@[simp] theorem raiseFatal_pc (op : Byte) (s : State) : (raiseFatal op s).pc = s.pc - 1 := rfl
@[simp] theorem raiseFatal_cycles (op : Byte) (s : State) : (raiseFatal op s).cycles = s.cycles := rfl
@[simp] theorem raiseFatal_fault (op : Byte) (s : State) : (raiseFatal op s).fault = some { opcode := op, pc := s.pc - 1 } := rfl
@[simp] theorem raiseFatal_ram (op : Byte) (s : State) : (raiseFatal op s).ram = s.ram := rfl
@[simp] theorem raiseFatal_ctl (op : Byte) (s : State) : (raiseFatal op s).ctl = s.ctl := rfl
@[simp] theorem raiseFatal_ppu (op : Byte) (s : State) : (raiseFatal op s).ppu = s.ppu := rfl
@[simp] theorem raiseFatal_apu (op : Byte) (s : State) : (raiseFatal op s).apu = s.apu := rfl
@[simp] theorem raiseFatal_cart (op : Byte) (s : State) : (raiseFatal op s).cart = s.cart := rfl
@[simp] theorem raiseFatal_cfg (op : Byte) (s : State) : (raiseFatal op s).cfg = s.cfg := rfl
@[simp] theorem raiseFatal_draws (op : Byte) (s : State) : (raiseFatal op s).draws = s.draws := rfl
@[simp] theorem raiseFatal_samples (op : Byte) (s : State) : (raiseFatal op s).samples = s.samples := rfl

/-! ### setLatch -/

@[simp] theorem setLatch_a (d : Byte) (s : State) : (setLatch d s).a = s.a := rfl
@[simp] theorem setLatch_x (d : Byte) (s : State) : (setLatch d s).x = s.x := rfl
@[simp] theorem setLatch_y (d : Byte) (s : State) : (setLatch d s).y = s.y := rfl
@[simp] theorem setLatch_sp (d : Byte) (s : State) : (setLatch d s).sp = s.sp := rfl
@[simp] theorem setLatch_p (d : Byte) (s : State) : (setLatch d s).p = s.p := rfl
@[simp] theorem setLatch_pc (d : Byte) (s : State) : (setLatch d s).pc = s.pc := rfl
@[simp] theorem setLatch_cycles (d : Byte) (s : State) : (setLatch d s).cycles = s.cycles := rfl
@[simp] theorem setLatch_fault (d : Byte) (s : State) : (setLatch d s).fault = s.fault := rfl
@[simp] theorem setLatch_ram (d : Byte) (s : State) : (setLatch d s).ram = s.ram := rfl
@[simp] theorem setLatch_ctl (d : Byte) (s : State) : (setLatch d s).ctl = s.ctl := rfl
@[simp] theorem setLatch_ppu (d : Byte) (s : State) : (setLatch d s).ppu = { s.ppu with latch := d } := rfl
@[simp] theorem setLatch_apu (d : Byte) (s : State) : (setLatch d s).apu = s.apu := rfl
@[simp] theorem setLatch_cart (d : Byte) (s : State) : (setLatch d s).cart = s.cart := rfl
@[simp] theorem setLatch_cfg (d : Byte) (s : State) : (setLatch d s).cfg = s.cfg := rfl
@[simp] theorem setLatch_draws (d : Byte) (s : State) : (setLatch d s).draws = s.draws := rfl
@[simp] theorem setLatch_samples (d : Byte) (s : State) : (setLatch d s).samples = s.samples := rfl

/-! ### advanceV -/

@[simp] theorem advanceV_a (s : State) : (advanceV s).a = s.a := rfl
@[simp] theorem advanceV_x (s : State) : (advanceV s).x = s.x := rfl
@[simp] theorem advanceV_y (s : State) : (advanceV s).y = s.y := rfl
@[simp] theorem advanceV_sp (s : State) : (advanceV s).sp = s.sp := rfl
@[simp] theorem advanceV_p (s : State) : (advanceV s).p = s.p := rfl
@[simp] theorem advanceV_pc (s : State) : (advanceV s).pc = s.pc := rfl
@[simp] theorem advanceV_cycles (s : State) : (advanceV s).cycles = s.cycles := rfl
@[simp] theorem advanceV_fault (s : State) : (advanceV s).fault = s.fault := rfl
@[simp] theorem advanceV_ram (s : State) : (advanceV s).ram = s.ram := rfl
@[simp] theorem advanceV_ctl (s : State) : (advanceV s).ctl = s.ctl := rfl
@[simp] theorem advanceV_ppu (s : State) : (advanceV s).ppu = { s.ppu with v := s.ppu.v + s.ppu.inc } := rfl
@[simp] theorem advanceV_apu (s : State) : (advanceV s).apu = s.apu := rfl
@[simp] theorem advanceV_cart (s : State) : (advanceV s).cart = s.cart := rfl
@[simp] theorem advanceV_cfg (s : State) : (advanceV s).cfg = s.cfg := rfl
@[simp] theorem advanceV_draws (s : State) : (advanceV s).draws = s.draws := rfl
@[simp] theorem advanceV_samples (s : State) : (advanceV s).samples = s.samples := rfl

/-! ### The host's acts -/

@[simp] theorem unlessFaulted_none (act : State → State) {s : State} (h : s.fault = none) : unlessFaulted act s = act s := by
  simp [unlessFaulted, h]
@[simp] theorem unlessFaulted_some (act : State → State) {s : State} {f : FaultRecord} (h : s.fault = some f) :
    unlessFaulted act s = s := by
  simp [unlessFaulted, h]

/-- The button write changes nothing but the buttons, and those only without a fault (R700, R1120). -/
theorem hostSetButtons_eq (m : Byte) (s : State) : hostSetButtons m s =
    { s with ctl := { s.ctl with buttons := if s.fault.isSome then s.ctl.buttons else m } } := by
  simp only [hostSetButtons, unlessFaulted]
  split <;> rfl

@[simp] theorem hostSetButtons_a (m : Byte) (s : State) : (hostSetButtons m s).a = s.a := by rw [hostSetButtons_eq]
@[simp] theorem hostSetButtons_x (m : Byte) (s : State) : (hostSetButtons m s).x = s.x := by rw [hostSetButtons_eq]
@[simp] theorem hostSetButtons_y (m : Byte) (s : State) : (hostSetButtons m s).y = s.y := by rw [hostSetButtons_eq]
@[simp] theorem hostSetButtons_sp (m : Byte) (s : State) : (hostSetButtons m s).sp = s.sp := by rw [hostSetButtons_eq]
@[simp] theorem hostSetButtons_p (m : Byte) (s : State) : (hostSetButtons m s).p = s.p := by rw [hostSetButtons_eq]
@[simp] theorem hostSetButtons_pc (m : Byte) (s : State) : (hostSetButtons m s).pc = s.pc := by rw [hostSetButtons_eq]
@[simp] theorem hostSetButtons_cycles (m : Byte) (s : State) : (hostSetButtons m s).cycles = s.cycles := by rw [hostSetButtons_eq]
@[simp] theorem hostSetButtons_fault (m : Byte) (s : State) : (hostSetButtons m s).fault = s.fault := by rw [hostSetButtons_eq]
@[simp] theorem hostSetButtons_ram (m : Byte) (s : State) : (hostSetButtons m s).ram = s.ram := by rw [hostSetButtons_eq]
@[simp] theorem hostSetButtons_ppu (m : Byte) (s : State) : (hostSetButtons m s).ppu = s.ppu := by rw [hostSetButtons_eq]
@[simp] theorem hostSetButtons_apu (m : Byte) (s : State) : (hostSetButtons m s).apu = s.apu := by rw [hostSetButtons_eq]
@[simp] theorem hostSetButtons_cart (m : Byte) (s : State) : (hostSetButtons m s).cart = s.cart := by rw [hostSetButtons_eq]
@[simp] theorem hostSetButtons_cfg (m : Byte) (s : State) : (hostSetButtons m s).cfg = s.cfg := by rw [hostSetButtons_eq]
@[simp] theorem hostSetButtons_draws (m : Byte) (s : State) : (hostSetButtons m s).draws = s.draws := by rw [hostSetButtons_eq]
@[simp] theorem hostSetButtons_samples (m : Byte) (s : State) : (hostSetButtons m s).samples = s.samples := by rw [hostSetButtons_eq]

end Sys2Proof.Machine
end

