-- ==== Sys2Proof/Laws/Bus.lean ====
section
/-! SUPPORT. What one bus access can do: which fields it leaves alone, that it neither reads nor writes the CPU's
registers, and how it acts on plain memory. -/

namespace Sys2Proof.Machine

/-- s with the CPU registers, cycle counter and fault record of c. -/
def withCpu (c s : State) : State :=
  { s with a := c.a, x := c.x, y := c.y, sp := c.sp, p := c.p, pc := c.pc, cycles := c.cycles, fault := c.fault }

/-! ### A bus read -/

theorem portRead_withCpu (n : Nat) (c s : State) :
    portRead n (withCpu c s) = ((portRead n s).1, withCpu c (portRead n s).2) := by
  unfold portRead
  split <;> rfl

theorem busRead_withCpu (addr : Word) (c s : State) :
    busRead addr (withCpu c s) = ((busRead addr s).1, withCpu c (busRead addr s).2) := by
  unfold busRead
  dsimp only
  split_ifs <;> first | rfl | exact portRead_withCpu _ c s

theorem portRead_frame (n : Nat) (s : State) : (portRead n s).2 = { s with ppu := (portRead n s).2.ppu } := by
  unfold portRead
  split <;> rfl

/-- A bus read changes at most the controller port, the PPU, the APU and the number of draws. -/
theorem busRead_frame (addr : Word) (s : State) : (busRead addr s).2 = { s with
    ctl := (busRead addr s).2.ctl, ppu := (busRead addr s).2.ppu, apu := (busRead addr s).2.apu
    draws := (busRead addr s).2.draws } := by
  unfold busRead
  dsimp only
  split_ifs
  all_goals first
    | rfl
    | (rw [portRead_frame])

@[simp] theorem busRead_a (addr : Word) (s : State) : (busRead addr s).2.a = s.a := by rw [busRead_frame]
@[simp] theorem busRead_x (addr : Word) (s : State) : (busRead addr s).2.x = s.x := by rw [busRead_frame]
@[simp] theorem busRead_y (addr : Word) (s : State) : (busRead addr s).2.y = s.y := by rw [busRead_frame]
@[simp] theorem busRead_sp (addr : Word) (s : State) : (busRead addr s).2.sp = s.sp := by rw [busRead_frame]
@[simp] theorem busRead_p (addr : Word) (s : State) : (busRead addr s).2.p = s.p := by rw [busRead_frame]
@[simp] theorem busRead_pc (addr : Word) (s : State) : (busRead addr s).2.pc = s.pc := by rw [busRead_frame]
@[simp] theorem busRead_cycles (addr : Word) (s : State) : (busRead addr s).2.cycles = s.cycles := by rw [busRead_frame]
@[simp] theorem busRead_fault (addr : Word) (s : State) : (busRead addr s).2.fault = s.fault := by rw [busRead_frame]
@[simp] theorem busRead_ram (addr : Word) (s : State) : (busRead addr s).2.ram = s.ram := by rw [busRead_frame]
@[simp] theorem busRead_cart (addr : Word) (s : State) : (busRead addr s).2.cart = s.cart := by rw [busRead_frame]
@[simp] theorem busRead_cfg (addr : Word) (s : State) : (busRead addr s).2.cfg = s.cfg := by rw [busRead_frame]
@[simp] theorem busRead_samples (addr : Word) (s : State) : (busRead addr s).2.samples = s.samples := by rw [busRead_frame]

/-- A PPU port read leaves the PPU as it was but for the flag, toggle and address state of R802, R804 and R807. -/
theorem portRead_ppu (n : Nat) (s : State) : (portRead n s).2.ppu = { s.ppu with
    vbl := (portRead n s).2.ppu.vbl, w := (portRead n s).2.ppu.w, latch := (portRead n s).2.ppu.latch
    oamAddr := (portRead n s).2.ppu.oamAddr, v := (portRead n s).2.ppu.v
    readBuffer := (portRead n s).2.ppu.readBuffer } := by
  unfold portRead
  split <;> rfl

/-- What a bus read can change of the PPU. -/
theorem busRead_ppu (addr : Word) (s : State) : (busRead addr s).2.ppu = { s.ppu with
    vbl := (busRead addr s).2.ppu.vbl, w := (busRead addr s).2.ppu.w, latch := (busRead addr s).2.ppu.latch
    oamAddr := (busRead addr s).2.ppu.oamAddr, v := (busRead addr s).2.ppu.v
    readBuffer := (busRead addr s).2.ppu.readBuffer } := by
  unfold busRead
  dsimp only
  split_ifs
  all_goals first
    | rfl
    | exact portRead_ppu _ s

/-- What a bus read can change of the APU: the frame IRQ flag (R952). -/
theorem busRead_apu (addr : Word) (s : State) :
    (busRead addr s).2.apu = { s.apu with frameIrq := (busRead addr s).2.apu.frameIrq } := by
  unfold busRead
  dsimp only
  split_ifs
  all_goals first
    | rfl
    | (rw [portRead_frame])

/-- What a bus read can change of the controller port: the shift index (R231). -/
theorem busRead_ctl (addr : Word) (s : State) :
    (busRead addr s).2.ctl = { s.ctl with shiftIndex := (busRead addr s).2.ctl.shiftIndex } := by
  unfold busRead
  dsimp only
  split_ifs
  all_goals first
    | rfl
    | (rw [portRead_frame])

/-- A read of a plain byte of RAM, PRG-RAM or PRG-ROM gives the byte and changes nothing (R201, R1006). -/
theorem busRead_plain {addr : Word} (s : State) (h : isStorable addr = true) :
    busRead addr s = (if addr.toNat < 0x2000 then Cells.read s.ram (addr.toNat % 0x800) else s.cart.read addr.toNat, s) := by
  simp only [isStorable, Bool.or_eq_true, decide_eq_true_eq] at h
  unfold busRead
  dsimp only
  split_ifs <;> first | rfl | omega

/-- A read of internal RAM (R203). -/
theorem busRead_of_ram {addr : Word} (s : State) (h : addr.toNat < 0x2000) :
    busRead addr s = (Cells.read s.ram (addr.toNat % 0x800), s) := by
  rw [busRead_plain s (by simp [isStorable, h]), if_pos h]

/-- A read at or above 0x6000 (R1006). -/
theorem busRead_of_cart {addr : Word} (s : State) (h : 0x6000 ≤ addr.toNat) : busRead addr s = (s.cart.read addr.toNat, s) := by
  rw [busRead_plain s (by simp [isStorable, h]), if_neg (by omega)]

/-! ### A bus write -/

theorem ppuWrite_withCpu (addr : Nat) (d : Byte) (c s : State) : ppuWrite addr d (withCpu c s) = withCpu c (ppuWrite addr d s) := by
  unfold ppuWrite
  dsimp only
  split_ifs <;> rfl

theorem portWrite_withCpu (n : Nat) (d : Byte) (c s : State) :
    portWrite n d (withCpu c s) = withCpu c (portWrite n d s) := by
  unfold portWrite
  dsimp only
  split
  all_goals first
    | rfl
    | (show advanceV (ppuWrite _ d (withCpu c (setLatch d s))) = _
       rw [ppuWrite_withCpu]; rfl)

theorem oamDmaFrom_withCpu (d : Byte) (n : Nat) : ∀ (i : Nat) (c s : State),
    oamDmaFrom d n i (withCpu c s) = withCpu c (oamDmaFrom d n i s) := by
  induction n with
  | zero => intro _ _ _; rfl
  | succ n ih =>
    intro i c s
    simp only [oamDmaFrom, busRead_withCpu, portWrite_withCpu, ih]

theorem busWrite_withCpu (addr : Word) (d : Byte) (c s : State) :
    busWrite addr d (withCpu c s) = withCpu c (busWrite addr d s) := by
  unfold busWrite
  dsimp only
  split_ifs
  · rfl
  · exact portWrite_withCpu _ d c s
  · rfl
  · exact oamDmaFrom_withCpu d 256 0 c s
  all_goals rfl

theorem ppuWrite_frame (addr : Nat) (d : Byte) (s : State) : ppuWrite addr d s = { s with
    ppu := (ppuWrite addr d s).ppu, cart := (ppuWrite addr d s).cart } := by
  unfold ppuWrite
  dsimp only
  split_ifs <;> rfl

theorem portWrite_frame (n : Nat) (d : Byte) (s : State) : portWrite n d s = { s with
    ppu := (portWrite n d s).ppu, cart := (portWrite n d s).cart } := by
  unfold portWrite
  dsimp only
  split
  all_goals first
    | rfl
    | (rw [ppuWrite_frame]; rfl)

theorem oamDmaFrom_frame (d : Byte) (n : Nat) : ∀ (i : Nat) (s : State), oamDmaFrom d n i s = { s with
    ctl := (oamDmaFrom d n i s).ctl, ppu := (oamDmaFrom d n i s).ppu, apu := (oamDmaFrom d n i s).apu
    cart := (oamDmaFrom d n i s).cart, draws := (oamDmaFrom d n i s).draws } := by
  induction n with
  | zero => intro _ _; rfl
  | succ n ih =>
    intro i s
    simp only [oamDmaFrom]
    rw [ih, portWrite_frame, busRead_frame]

/-- A bus write leaves the CPU's registers, the cycle counter, the fault record, the parameters and the samples alone. -/
theorem busWrite_frame (addr : Word) (d : Byte) (s : State) : busWrite addr d s = { s with
    ram := (busWrite addr d s).ram, ctl := (busWrite addr d s).ctl, ppu := (busWrite addr d s).ppu
    apu := (busWrite addr d s).apu, cart := (busWrite addr d s).cart, draws := (busWrite addr d s).draws } := by
  unfold busWrite
  dsimp only
  split_ifs
  · rfl
  · rw [portWrite_frame]
  · rfl
  · rw [oamDma, oamDmaFrom_frame]
  all_goals rfl

@[simp] theorem busWrite_a (addr : Word) (d : Byte) (s : State) : (busWrite addr d s).a = s.a := by rw [busWrite_frame]
@[simp] theorem busWrite_x (addr : Word) (d : Byte) (s : State) : (busWrite addr d s).x = s.x := by rw [busWrite_frame]
@[simp] theorem busWrite_y (addr : Word) (d : Byte) (s : State) : (busWrite addr d s).y = s.y := by rw [busWrite_frame]
@[simp] theorem busWrite_sp (addr : Word) (d : Byte) (s : State) : (busWrite addr d s).sp = s.sp := by rw [busWrite_frame]
@[simp] theorem busWrite_p (addr : Word) (d : Byte) (s : State) : (busWrite addr d s).p = s.p := by rw [busWrite_frame]
@[simp] theorem busWrite_pc (addr : Word) (d : Byte) (s : State) : (busWrite addr d s).pc = s.pc := by rw [busWrite_frame]
@[simp] theorem busWrite_cycles (addr : Word) (d : Byte) (s : State) : (busWrite addr d s).cycles = s.cycles := by rw [busWrite_frame]
@[simp] theorem busWrite_fault (addr : Word) (d : Byte) (s : State) : (busWrite addr d s).fault = s.fault := by rw [busWrite_frame]
@[simp] theorem busWrite_cfg (addr : Word) (d : Byte) (s : State) : (busWrite addr d s).cfg = s.cfg := by rw [busWrite_frame]
@[simp] theorem busWrite_samples (addr : Word) (d : Byte) (s : State) : (busWrite addr d s).samples = s.samples := by rw [busWrite_frame]

/-- What a bus write does to internal RAM: the addressed byte, and nothing outside the RAM windows (R202, R203). -/
theorem busWrite_ram (addr : Word) (d : Byte) (s : State) :
    (busWrite addr d s).ram = if addr.toNat < 0x2000 then Cells.write s.ram (addr.toNat % 0x800) d else s.ram := by
  unfold busWrite
  dsimp only
  split_ifs
  · rfl
  · rw [portWrite_frame]
  · rfl
  · rw [oamDma, oamDmaFrom_frame]
  all_goals rfl

/-- A write to internal RAM does nothing else (R202). -/
theorem busWrite_to_ram {addr : Word} (d : Byte) (s : State) (h : addr.toNat < 0x2000) :
    busWrite addr d s = { s with ram := Cells.write s.ram (addr.toNat % 0x800) d } := by
  unfold busWrite
  exact if_pos h

/-- A write at or above 0x4020 is the cartridge's (R202, R1006). -/
theorem busWrite_to_cart {addr : Word} (d : Byte) (s : State) (h : 0x4020 ≤ addr.toNat) :
    busWrite addr d s = { s with cart := s.cart.write addr.toNat d } := by
  unfold busWrite
  dsimp only
  split_ifs <;> first | omega | rfl

/-! ### Bus accesses and updates of CPU registers commute -/

@[simp] theorem busRead_setC (addr : Word) (b : Bool) (s : State) :
    busRead addr (setC b s) = ((busRead addr s).1, setC b (busRead addr s).2) := by
  rw [show setC b s = withCpu (setC b s) s from rfl, busRead_withCpu, busRead_frame]
  rfl

@[simp] theorem busWrite_setC (addr : Word) (d : Byte) (b : Bool) (s : State) :
    busWrite addr d (setC b s) = setC b (busWrite addr d s) := by
  rw [show setC b s = withCpu (setC b s) s from rfl, busWrite_withCpu, busWrite_frame]
  rfl

@[simp] theorem busRead_setI (addr : Word) (b : Bool) (s : State) :
    busRead addr (setI b s) = ((busRead addr s).1, setI b (busRead addr s).2) := by
  rw [show setI b s = withCpu (setI b s) s from rfl, busRead_withCpu, busRead_frame]
  rfl

@[simp] theorem busWrite_setI (addr : Word) (d : Byte) (b : Bool) (s : State) :
    busWrite addr d (setI b s) = setI b (busWrite addr d s) := by
  rw [show setI b s = withCpu (setI b s) s from rfl, busWrite_withCpu, busWrite_frame]
  rfl

@[simp] theorem busRead_setD (addr : Word) (b : Bool) (s : State) :
    busRead addr (setD b s) = ((busRead addr s).1, setD b (busRead addr s).2) := by
  rw [show setD b s = withCpu (setD b s) s from rfl, busRead_withCpu, busRead_frame]
  rfl

@[simp] theorem busWrite_setD (addr : Word) (d : Byte) (b : Bool) (s : State) :
    busWrite addr d (setD b s) = setD b (busWrite addr d s) := by
  rw [show setD b s = withCpu (setD b s) s from rfl, busWrite_withCpu, busWrite_frame]
  rfl

@[simp] theorem busRead_setV (addr : Word) (b : Bool) (s : State) :
    busRead addr (setV b s) = ((busRead addr s).1, setV b (busRead addr s).2) := by
  rw [show setV b s = withCpu (setV b s) s from rfl, busRead_withCpu, busRead_frame]
  rfl

@[simp] theorem busWrite_setV (addr : Word) (d : Byte) (b : Bool) (s : State) :
    busWrite addr d (setV b s) = setV b (busWrite addr d s) := by
  rw [show setV b s = withCpu (setV b s) s from rfl, busWrite_withCpu, busWrite_frame]
  rfl

@[simp] theorem busRead_setZN (addr : Word) (b : Byte) (s : State) :
    busRead addr (setZN b s) = ((busRead addr s).1, setZN b (busRead addr s).2) := by
  rw [show setZN b s = withCpu (setZN b s) s from rfl, busRead_withCpu, busRead_frame]
  rfl

@[simp] theorem busWrite_setZN (addr : Word) (d : Byte) (b : Byte) (s : State) :
    busWrite addr d (setZN b s) = setZN b (busWrite addr d s) := by
  rw [show setZN b s = withCpu (setZN b s) s from rfl, busWrite_withCpu, busWrite_frame]
  rfl

@[simp] theorem busRead_loadA (addr : Word) (b : Byte) (s : State) :
    busRead addr (loadA b s) = ((busRead addr s).1, loadA b (busRead addr s).2) := by
  rw [show loadA b s = withCpu (loadA b s) s from rfl, busRead_withCpu, busRead_frame]
  rfl

@[simp] theorem busWrite_loadA (addr : Word) (d : Byte) (b : Byte) (s : State) :
    busWrite addr d (loadA b s) = loadA b (busWrite addr d s) := by
  rw [show loadA b s = withCpu (loadA b s) s from rfl, busWrite_withCpu, busWrite_frame]
  rfl

@[simp] theorem busRead_loadX (addr : Word) (b : Byte) (s : State) :
    busRead addr (loadX b s) = ((busRead addr s).1, loadX b (busRead addr s).2) := by
  rw [show loadX b s = withCpu (loadX b s) s from rfl, busRead_withCpu, busRead_frame]
  rfl

@[simp] theorem busWrite_loadX (addr : Word) (d : Byte) (b : Byte) (s : State) :
    busWrite addr d (loadX b s) = loadX b (busWrite addr d s) := by
  rw [show loadX b s = withCpu (loadX b s) s from rfl, busWrite_withCpu, busWrite_frame]
  rfl

@[simp] theorem busRead_loadY (addr : Word) (b : Byte) (s : State) :
    busRead addr (loadY b s) = ((busRead addr s).1, loadY b (busRead addr s).2) := by
  rw [show loadY b s = withCpu (loadY b s) s from rfl, busRead_withCpu, busRead_frame]
  rfl

@[simp] theorem busWrite_loadY (addr : Word) (d : Byte) (b : Byte) (s : State) :
    busWrite addr d (loadY b s) = loadY b (busWrite addr d s) := by
  rw [show loadY b s = withCpu (loadY b s) s from rfl, busWrite_withCpu, busWrite_frame]
  rfl

@[simp] theorem busRead_loadAX (addr : Word) (b : Byte) (s : State) :
    busRead addr (loadAX b s) = ((busRead addr s).1, loadAX b (busRead addr s).2) := by
  rw [show loadAX b s = withCpu (loadAX b s) s from rfl, busRead_withCpu, busRead_frame]
  rfl

@[simp] theorem busWrite_loadAX (addr : Word) (d : Byte) (b : Byte) (s : State) :
    busWrite addr d (loadAX b s) = loadAX b (busWrite addr d s) := by
  rw [show loadAX b s = withCpu (loadAX b s) s from rfl, busWrite_withCpu, busWrite_frame]
  rfl

@[simp] theorem busRead_spend (addr : Word) (b : Nat) (s : State) :
    busRead addr (spend b s) = ((busRead addr s).1, spend b (busRead addr s).2) := by
  rw [show spend b s = withCpu (spend b s) s from rfl, busRead_withCpu, busRead_frame]
  rfl

@[simp] theorem busWrite_spend (addr : Word) (d : Byte) (b : Nat) (s : State) :
    busWrite addr d (spend b s) = spend b (busWrite addr d s) := by
  rw [show spend b s = withCpu (spend b s) s from rfl, busWrite_withCpu, busWrite_frame]
  rfl

end Sys2Proof.Machine
end

