-- ==== Sys2Proof/Laws/Meaning.lean ====
section
/-! SUPPORT. `exec` read by mnemonic: one equation over all 256 rows, then for each mnemonic the forms it has and the
meaning they run. A proof about a mnemonic cites its lemma and never splits on `Instr`. -/

namespace Sys2Proof.Machine

/-- What k gives for an immediate or memory form. -/
def onOperand (f : Form) (k : Source → StepResult) : Option StepResult :=
  match f with
  | .operand o => some (k o)
  | _ => none

/-- What k gives for a memory form. -/
def onMem (f : Form) (k : MemForm → StepResult) : Option StepResult :=
  match f with
  | .operand (.mem m) => some (k m)
  | _ => none

/-- What k gives for the implied form. -/
def onImplied (f : Form) (k : StepResult) : Option StepResult :=
  match f with
  | .implied => some k
  | _ => none

/-- What k gives for a memory form and k' for the accumulator form. -/
def onShift (f : Form) (k : MemForm → StepResult) (k' : StepResult) : Option StepResult :=
  match f with
  | .operand (.mem m) => some (k m)
  | .accumulator => some k'
  | _ => none

/-- What k gives for the relative form. -/
def onRelative (f : Form) (k : Int → StepResult) : Option StepResult :=
  match f with
  | .relative d => some (k d)
  | _ => none

/-- The meaning of a mnemonic over its cycle count, opcode and operand form; none for a form it does not have. -/
def meaning (m : Mnemonic) (c : Nat) (op : Byte) (f : Form) (s : State) : Option StepResult :=
  match m with
  | .lda => onOperand f fun o => runLda c o s
  | .ldx => onOperand f fun o => runLdx c o s
  | .ldy => onOperand f fun o => runLdy c o s
  | .lax => onOperand f fun o => runLax c o s
  | .adc => onOperand f fun o => runAdc c o s
  | .sbc => onOperand f fun o => runSbc c o s
  | .and => onOperand f fun o => runAnd c o s
  | .ora => onOperand f fun o => runOra c o s
  | .eor => onOperand f fun o => runEor c o s
  | .bit => onOperand f fun o => runBit c o s
  | .cmp => onOperand f fun o => runCmp c o s
  | .cpx => onOperand f fun o => runCpx c o s
  | .cpy => onOperand f fun o => runCpy c o s
  | .anc => onOperand f fun o => runAnc c o s
  | .alr => onOperand f fun o => runAlr c o s
  | .arr => onOperand f fun o => runArr c o s
  | .sbx => onOperand f fun o => runSbx c o s
  | .ane => onOperand f fun o => runAne c o s
  | .lxa => onOperand f fun o => runLxa c o s
  | .las => onOperand f fun o => runLas c o s
  | .sta => onMem f fun m => runSta c m s
  | .stx => onMem f fun m => runStx c m s
  | .sty => onMem f fun m => runSty c m s
  | .sax => onMem f fun m => runSax c m s
  | .sha => onMem f fun m => runSha c m s
  | .shx => onMem f fun m => runShx c m s
  | .shy => onMem f fun m => runShy c m s
  | .tas => onMem f fun m => runTas c m s
  | .inc => onMem f fun m => runInc c m s
  | .dec => onMem f fun m => runDec c m s
  | .slo => onMem f fun m => runSlo c m s
  | .rla => onMem f fun m => runRla c m s
  | .sre => onMem f fun m => runSre c m s
  | .rra => onMem f fun m => runRra c m s
  | .dcp => onMem f fun m => runDcp c m s
  | .isc => onMem f fun m => runIsc c m s
  | .asl => onShift f (fun m => runAsl c m s) (runAslA c s)
  | .lsr => onShift f (fun m => runLsr c m s) (runLsrA c s)
  | .rol => onShift f (fun m => runRol c m s) (runRolA c s)
  | .ror => onShift f (fun m => runRor c m s) (runRorA c s)
  | .bpl => onRelative f fun d => runBpl c d s
  | .bmi => onRelative f fun d => runBmi c d s
  | .bvc => onRelative f fun d => runBvc c d s
  | .bvs => onRelative f fun d => runBvs c d s
  | .bcc => onRelative f fun d => runBcc c d s
  | .bcs => onRelative f fun d => runBcs c d s
  | .bne => onRelative f fun d => runBne c d s
  | .beq => onRelative f fun d => runBeq c d s
  | .tax => onImplied f (runTax c s)
  | .tay => onImplied f (runTay c s)
  | .txa => onImplied f (runTxa c s)
  | .tya => onImplied f (runTya c s)
  | .tsx => onImplied f (runTsx c s)
  | .txs => onImplied f (runTxs c s)
  | .pha => onImplied f (runPha c s)
  | .php => onImplied f (runPhp c s)
  | .pla => onImplied f (runPla c s)
  | .plp => onImplied f (runPlp c s)
  | .inx => onImplied f (runInx c s)
  | .iny => onImplied f (runIny c s)
  | .dex => onImplied f (runDex c s)
  | .dey => onImplied f (runDey c s)
  | .rts => onImplied f (runRts c s)
  | .rti => onImplied f (runRti c s)
  | .clc => onImplied f (runClc c s)
  | .sec => onImplied f (runSec c s)
  | .cli => onImplied f (runCli c s)
  | .sei => onImplied f (runSei c s)
  | .clv => onImplied f (runClv c s)
  | .cld => onImplied f (runCld c s)
  | .sed => onImplied f (runSed c s)
  | .jam => onImplied f (runJam op s)
  | .jmp =>
    match f with
    | .operand (.mem (.abs a)) => some (runJmpAbs c a s)
    | .indirect a => some (runJmpInd c a s)
    | _ => none
  | .jsr =>
    match f with
    | .operand (.mem (.abs a)) => some (runJsr c a s)
    | _ => none
  | .brk =>
    match f with
    | .signature _ => some (runBrk c s)
    | _ => none
  | .nop =>
    match f with
    | .implied => some (runNop c s)
    | .operand o => some (runNopRead c o s)
    | _ => none

/-- `exec` runs the meaning of the row's mnemonic. -/
theorem exec_meaning (i : Instr) (s : State) : meaning i.mnemonic i.cycles i.opcode i.form s = some (exec i s) := by
  cases i <;> simp only [Instr.cycles, Instr.opcode] <;> rfl

theorem onOperand_eq {f : Form} {k : Source → StepResult} {r : StepResult} (h : onOperand f k = some r) :
    ∃ o, f = .operand o ∧ r = k o := by
  unfold onOperand at h
  split at h
  · exact ⟨_, rfl, (Option.some.inj h).symm⟩
  · exact absurd h nofun

theorem onMem_eq {f : Form} {k : MemForm → StepResult} {r : StepResult} (h : onMem f k = some r) :
    ∃ m, f = .operand (.mem m) ∧ r = k m := by
  unfold onMem at h
  split at h
  · exact ⟨_, rfl, (Option.some.inj h).symm⟩
  · exact absurd h nofun

theorem onImplied_eq {f : Form} {k r : StepResult} (h : onImplied f k = some r) : f = .implied ∧ r = k := by
  unfold onImplied at h
  split at h
  · exact ⟨rfl, (Option.some.inj h).symm⟩
  · exact absurd h nofun

theorem onShift_eq {f : Form} {k : MemForm → StepResult} {k' r : StepResult} (h : onShift f k k' = some r) :
    (∃ m, f = .operand (.mem m) ∧ r = k m) ∨ (f = .accumulator ∧ r = k') := by
  unfold onShift at h
  split at h
  · exact .inl ⟨_, rfl, (Option.some.inj h).symm⟩
  · exact .inr ⟨rfl, (Option.some.inj h).symm⟩
  · exact absurd h nofun

theorem onRelative_eq {f : Form} {k : Int → StepResult} {r : StepResult} (h : onRelative f k = some r) :
    ∃ d, f = .relative d ∧ r = k d := by
  unfold onRelative at h
  split at h
  · exact ⟨_, rfl, (Option.some.inj h).symm⟩
  · exact absurd h nofun

variable {i : Instr} (s : State)

theorem meaning_eq {m : Mnemonic} (h : i.mnemonic = m) : meaning m i.cycles i.opcode i.form s = some (exec i s) := by
  rw [← h]
  exact exec_meaning i s

theorem exec_lda (h : i.mnemonic = .lda) : ∃ o, i.form = .operand o ∧ exec i s = runLda i.cycles o s :=
  onOperand_eq (meaning_eq s h)

theorem exec_ldx (h : i.mnemonic = .ldx) : ∃ o, i.form = .operand o ∧ exec i s = runLdx i.cycles o s :=
  onOperand_eq (meaning_eq s h)

theorem exec_ldy (h : i.mnemonic = .ldy) : ∃ o, i.form = .operand o ∧ exec i s = runLdy i.cycles o s :=
  onOperand_eq (meaning_eq s h)

theorem exec_lax (h : i.mnemonic = .lax) : ∃ o, i.form = .operand o ∧ exec i s = runLax i.cycles o s :=
  onOperand_eq (meaning_eq s h)

theorem exec_adc (h : i.mnemonic = .adc) : ∃ o, i.form = .operand o ∧ exec i s = runAdc i.cycles o s :=
  onOperand_eq (meaning_eq s h)

theorem exec_sbc (h : i.mnemonic = .sbc) : ∃ o, i.form = .operand o ∧ exec i s = runSbc i.cycles o s :=
  onOperand_eq (meaning_eq s h)

theorem exec_and (h : i.mnemonic = .and) : ∃ o, i.form = .operand o ∧ exec i s = runAnd i.cycles o s :=
  onOperand_eq (meaning_eq s h)

theorem exec_ora (h : i.mnemonic = .ora) : ∃ o, i.form = .operand o ∧ exec i s = runOra i.cycles o s :=
  onOperand_eq (meaning_eq s h)

theorem exec_eor (h : i.mnemonic = .eor) : ∃ o, i.form = .operand o ∧ exec i s = runEor i.cycles o s :=
  onOperand_eq (meaning_eq s h)

theorem exec_bit (h : i.mnemonic = .bit) : ∃ o, i.form = .operand o ∧ exec i s = runBit i.cycles o s :=
  onOperand_eq (meaning_eq s h)

theorem exec_cmp (h : i.mnemonic = .cmp) : ∃ o, i.form = .operand o ∧ exec i s = runCmp i.cycles o s :=
  onOperand_eq (meaning_eq s h)

theorem exec_cpx (h : i.mnemonic = .cpx) : ∃ o, i.form = .operand o ∧ exec i s = runCpx i.cycles o s :=
  onOperand_eq (meaning_eq s h)

theorem exec_cpy (h : i.mnemonic = .cpy) : ∃ o, i.form = .operand o ∧ exec i s = runCpy i.cycles o s :=
  onOperand_eq (meaning_eq s h)

theorem exec_anc (h : i.mnemonic = .anc) : ∃ o, i.form = .operand o ∧ exec i s = runAnc i.cycles o s :=
  onOperand_eq (meaning_eq s h)

theorem exec_alr (h : i.mnemonic = .alr) : ∃ o, i.form = .operand o ∧ exec i s = runAlr i.cycles o s :=
  onOperand_eq (meaning_eq s h)

theorem exec_arr (h : i.mnemonic = .arr) : ∃ o, i.form = .operand o ∧ exec i s = runArr i.cycles o s :=
  onOperand_eq (meaning_eq s h)

theorem exec_sbx (h : i.mnemonic = .sbx) : ∃ o, i.form = .operand o ∧ exec i s = runSbx i.cycles o s :=
  onOperand_eq (meaning_eq s h)

theorem exec_ane (h : i.mnemonic = .ane) : ∃ o, i.form = .operand o ∧ exec i s = runAne i.cycles o s :=
  onOperand_eq (meaning_eq s h)

theorem exec_lxa (h : i.mnemonic = .lxa) : ∃ o, i.form = .operand o ∧ exec i s = runLxa i.cycles o s :=
  onOperand_eq (meaning_eq s h)

theorem exec_las (h : i.mnemonic = .las) : ∃ o, i.form = .operand o ∧ exec i s = runLas i.cycles o s :=
  onOperand_eq (meaning_eq s h)

theorem exec_sta (h : i.mnemonic = .sta) : ∃ m, i.form = .operand (.mem m) ∧ exec i s = runSta i.cycles m s :=
  onMem_eq (meaning_eq s h)

theorem exec_stx (h : i.mnemonic = .stx) : ∃ m, i.form = .operand (.mem m) ∧ exec i s = runStx i.cycles m s :=
  onMem_eq (meaning_eq s h)

theorem exec_sty (h : i.mnemonic = .sty) : ∃ m, i.form = .operand (.mem m) ∧ exec i s = runSty i.cycles m s :=
  onMem_eq (meaning_eq s h)

theorem exec_sax (h : i.mnemonic = .sax) : ∃ m, i.form = .operand (.mem m) ∧ exec i s = runSax i.cycles m s :=
  onMem_eq (meaning_eq s h)

theorem exec_sha (h : i.mnemonic = .sha) : ∃ m, i.form = .operand (.mem m) ∧ exec i s = runSha i.cycles m s :=
  onMem_eq (meaning_eq s h)

theorem exec_shx (h : i.mnemonic = .shx) : ∃ m, i.form = .operand (.mem m) ∧ exec i s = runShx i.cycles m s :=
  onMem_eq (meaning_eq s h)

theorem exec_shy (h : i.mnemonic = .shy) : ∃ m, i.form = .operand (.mem m) ∧ exec i s = runShy i.cycles m s :=
  onMem_eq (meaning_eq s h)

theorem exec_tas (h : i.mnemonic = .tas) : ∃ m, i.form = .operand (.mem m) ∧ exec i s = runTas i.cycles m s :=
  onMem_eq (meaning_eq s h)

theorem exec_inc (h : i.mnemonic = .inc) : ∃ m, i.form = .operand (.mem m) ∧ exec i s = runInc i.cycles m s :=
  onMem_eq (meaning_eq s h)

theorem exec_dec (h : i.mnemonic = .dec) : ∃ m, i.form = .operand (.mem m) ∧ exec i s = runDec i.cycles m s :=
  onMem_eq (meaning_eq s h)

theorem exec_slo (h : i.mnemonic = .slo) : ∃ m, i.form = .operand (.mem m) ∧ exec i s = runSlo i.cycles m s :=
  onMem_eq (meaning_eq s h)

theorem exec_rla (h : i.mnemonic = .rla) : ∃ m, i.form = .operand (.mem m) ∧ exec i s = runRla i.cycles m s :=
  onMem_eq (meaning_eq s h)

theorem exec_sre (h : i.mnemonic = .sre) : ∃ m, i.form = .operand (.mem m) ∧ exec i s = runSre i.cycles m s :=
  onMem_eq (meaning_eq s h)

theorem exec_rra (h : i.mnemonic = .rra) : ∃ m, i.form = .operand (.mem m) ∧ exec i s = runRra i.cycles m s :=
  onMem_eq (meaning_eq s h)

theorem exec_dcp (h : i.mnemonic = .dcp) : ∃ m, i.form = .operand (.mem m) ∧ exec i s = runDcp i.cycles m s :=
  onMem_eq (meaning_eq s h)

theorem exec_isc (h : i.mnemonic = .isc) : ∃ m, i.form = .operand (.mem m) ∧ exec i s = runIsc i.cycles m s :=
  onMem_eq (meaning_eq s h)

theorem exec_asl (h : i.mnemonic = .asl) : (∃ m, i.form = .operand (.mem m) ∧ exec i s = runAsl i.cycles m s) ∨
    (i.form = .accumulator ∧ exec i s = runAslA i.cycles s) :=
  onShift_eq (meaning_eq s h)

theorem exec_lsr (h : i.mnemonic = .lsr) : (∃ m, i.form = .operand (.mem m) ∧ exec i s = runLsr i.cycles m s) ∨
    (i.form = .accumulator ∧ exec i s = runLsrA i.cycles s) :=
  onShift_eq (meaning_eq s h)

theorem exec_rol (h : i.mnemonic = .rol) : (∃ m, i.form = .operand (.mem m) ∧ exec i s = runRol i.cycles m s) ∨
    (i.form = .accumulator ∧ exec i s = runRolA i.cycles s) :=
  onShift_eq (meaning_eq s h)

theorem exec_ror (h : i.mnemonic = .ror) : (∃ m, i.form = .operand (.mem m) ∧ exec i s = runRor i.cycles m s) ∨
    (i.form = .accumulator ∧ exec i s = runRorA i.cycles s) :=
  onShift_eq (meaning_eq s h)

theorem exec_bpl (h : i.mnemonic = .bpl) : ∃ d, i.form = .relative d ∧ exec i s = runBpl i.cycles d s :=
  onRelative_eq (meaning_eq s h)

theorem exec_bmi (h : i.mnemonic = .bmi) : ∃ d, i.form = .relative d ∧ exec i s = runBmi i.cycles d s :=
  onRelative_eq (meaning_eq s h)

theorem exec_bvc (h : i.mnemonic = .bvc) : ∃ d, i.form = .relative d ∧ exec i s = runBvc i.cycles d s :=
  onRelative_eq (meaning_eq s h)

theorem exec_bvs (h : i.mnemonic = .bvs) : ∃ d, i.form = .relative d ∧ exec i s = runBvs i.cycles d s :=
  onRelative_eq (meaning_eq s h)

theorem exec_bcc (h : i.mnemonic = .bcc) : ∃ d, i.form = .relative d ∧ exec i s = runBcc i.cycles d s :=
  onRelative_eq (meaning_eq s h)

theorem exec_bcs (h : i.mnemonic = .bcs) : ∃ d, i.form = .relative d ∧ exec i s = runBcs i.cycles d s :=
  onRelative_eq (meaning_eq s h)

theorem exec_bne (h : i.mnemonic = .bne) : ∃ d, i.form = .relative d ∧ exec i s = runBne i.cycles d s :=
  onRelative_eq (meaning_eq s h)

theorem exec_beq (h : i.mnemonic = .beq) : ∃ d, i.form = .relative d ∧ exec i s = runBeq i.cycles d s :=
  onRelative_eq (meaning_eq s h)

theorem exec_tax (h : i.mnemonic = .tax) : i.form = .implied ∧ exec i s = runTax i.cycles s :=
  onImplied_eq (meaning_eq s h)

theorem exec_tay (h : i.mnemonic = .tay) : i.form = .implied ∧ exec i s = runTay i.cycles s :=
  onImplied_eq (meaning_eq s h)

theorem exec_txa (h : i.mnemonic = .txa) : i.form = .implied ∧ exec i s = runTxa i.cycles s :=
  onImplied_eq (meaning_eq s h)

theorem exec_tya (h : i.mnemonic = .tya) : i.form = .implied ∧ exec i s = runTya i.cycles s :=
  onImplied_eq (meaning_eq s h)

theorem exec_tsx (h : i.mnemonic = .tsx) : i.form = .implied ∧ exec i s = runTsx i.cycles s :=
  onImplied_eq (meaning_eq s h)

theorem exec_txs (h : i.mnemonic = .txs) : i.form = .implied ∧ exec i s = runTxs i.cycles s :=
  onImplied_eq (meaning_eq s h)

theorem exec_pha (h : i.mnemonic = .pha) : i.form = .implied ∧ exec i s = runPha i.cycles s :=
  onImplied_eq (meaning_eq s h)

theorem exec_php (h : i.mnemonic = .php) : i.form = .implied ∧ exec i s = runPhp i.cycles s :=
  onImplied_eq (meaning_eq s h)

theorem exec_pla (h : i.mnemonic = .pla) : i.form = .implied ∧ exec i s = runPla i.cycles s :=
  onImplied_eq (meaning_eq s h)

theorem exec_plp (h : i.mnemonic = .plp) : i.form = .implied ∧ exec i s = runPlp i.cycles s :=
  onImplied_eq (meaning_eq s h)

theorem exec_inx (h : i.mnemonic = .inx) : i.form = .implied ∧ exec i s = runInx i.cycles s :=
  onImplied_eq (meaning_eq s h)

theorem exec_iny (h : i.mnemonic = .iny) : i.form = .implied ∧ exec i s = runIny i.cycles s :=
  onImplied_eq (meaning_eq s h)

theorem exec_dex (h : i.mnemonic = .dex) : i.form = .implied ∧ exec i s = runDex i.cycles s :=
  onImplied_eq (meaning_eq s h)

theorem exec_dey (h : i.mnemonic = .dey) : i.form = .implied ∧ exec i s = runDey i.cycles s :=
  onImplied_eq (meaning_eq s h)

theorem exec_rts (h : i.mnemonic = .rts) : i.form = .implied ∧ exec i s = runRts i.cycles s :=
  onImplied_eq (meaning_eq s h)

theorem exec_rti (h : i.mnemonic = .rti) : i.form = .implied ∧ exec i s = runRti i.cycles s :=
  onImplied_eq (meaning_eq s h)

theorem exec_clc (h : i.mnemonic = .clc) : i.form = .implied ∧ exec i s = runClc i.cycles s :=
  onImplied_eq (meaning_eq s h)

theorem exec_sec (h : i.mnemonic = .sec) : i.form = .implied ∧ exec i s = runSec i.cycles s :=
  onImplied_eq (meaning_eq s h)

theorem exec_cli (h : i.mnemonic = .cli) : i.form = .implied ∧ exec i s = runCli i.cycles s :=
  onImplied_eq (meaning_eq s h)

theorem exec_sei (h : i.mnemonic = .sei) : i.form = .implied ∧ exec i s = runSei i.cycles s :=
  onImplied_eq (meaning_eq s h)

theorem exec_clv (h : i.mnemonic = .clv) : i.form = .implied ∧ exec i s = runClv i.cycles s :=
  onImplied_eq (meaning_eq s h)

theorem exec_cld (h : i.mnemonic = .cld) : i.form = .implied ∧ exec i s = runCld i.cycles s :=
  onImplied_eq (meaning_eq s h)

theorem exec_sed (h : i.mnemonic = .sed) : i.form = .implied ∧ exec i s = runSed i.cycles s :=
  onImplied_eq (meaning_eq s h)

theorem exec_jam (h : i.mnemonic = .jam) : i.form = .implied ∧ exec i s = runJam i.opcode s :=
  onImplied_eq (meaning_eq s h)

theorem exec_jmp (h : i.mnemonic = .jmp) : (∃ a, i.form = .operand (.mem (.abs a)) ∧ exec i s = runJmpAbs i.cycles a s) ∨
    (∃ a, i.form = .indirect a ∧ exec i s = runJmpInd i.cycles a s) := by
  have e := meaning_eq s h
  simp only [meaning] at e
  split at e
  · exact .inl ⟨_, by assumption, (Option.some.inj e).symm⟩
  · exact .inr ⟨_, by assumption, (Option.some.inj e).symm⟩
  · exact absurd e nofun

theorem exec_jsr (h : i.mnemonic = .jsr) : ∃ a, i.form = .operand (.mem (.abs a)) ∧ exec i s = runJsr i.cycles a s := by
  have e := meaning_eq s h
  simp only [meaning] at e
  split at e
  · exact ⟨_, by assumption, (Option.some.inj e).symm⟩
  · exact absurd e nofun

theorem exec_brk (h : i.mnemonic = .brk) : ∃ sig, i.form = .signature sig ∧ exec i s = runBrk i.cycles s := by
  have e := meaning_eq s h
  simp only [meaning] at e
  split at e
  · exact ⟨_, by assumption, (Option.some.inj e).symm⟩
  · exact absurd e nofun

theorem exec_nop (h : i.mnemonic = .nop) : (i.form = .implied ∧ exec i s = runNop i.cycles s) ∨
    (∃ o, i.form = .operand o ∧ exec i s = runNopRead i.cycles o s) := by
  have e := meaning_eq s h
  simp only [meaning] at e
  split at e
  · exact .inl ⟨by assumption, (Option.some.inj e).symm⟩
  · exact .inr ⟨_, by assumption, (Option.some.inj e).symm⟩
  · exact absurd e nofun

/-! ### Opcodes, modes and mnemonics -/

/-- The mnemonic and the mode of an opcode value's row. -/
def rowOf (b : Byte) : Mnemonic × Mode :=
  match decodeRow b with
  | .none i => (i.mnemonic, modeOf i.form)
  | .byte f => ((f 0).mnemonic, modeOf (f 0).form)
  | .word f => ((f 0).mnemonic, modeOf (f 0).form)

/-- An instruction's mnemonic and mode are those of its opcode's row. -/
theorem rowOf_opcode (i : Instr) : rowOf i.opcode = (i.mnemonic, modeOf i.form) := by
  cases i <;> rfl

/-- Every opcode value is some instruction's. -/
theorem exists_opcode (b : Byte) : ∃ i : Instr, i.opcode = b := by
  have h : ∀ b : Byte, (match decodeRow b with
    | .none i => i.opcode
    | .byte f => (f 0).opcode
    | .word f => (f 0).opcode) = b := by decide +kernel
  have hb := h b
  split at hb <;> exact ⟨_, hb⟩

/-- To show which forms a mnemonic has, run over the 256 opcode values (by `decide +kernel`). -/
theorem hasForms_of {m : Mnemonic} {forms : List (Byte × Mode)}
    (h : ∀ b : Byte, (rowOf b).1 = m ↔ (b, (rowOf b).2) ∈ forms) : HasForms m forms := by
  intro i
  have := h i.opcode
  rwa [rowOf_opcode] at this

end Sys2Proof.Machine
end

