-- ==== Sys2Proof/Laws/Operands.lean ====
section
/-! SUPPORT. What the operand forms, the shapes of access, the stack and exception entry can do, and the flags after each
flag computation. -/

namespace Sys2Proof.Machine

/-! ### Flags -/

/-- All eight bits at once. -/
theorem flagsAfter_iff {old new : Byte} {changes : List (Flag × Bool)} : FlagsAfter old new changes ↔
    new.getLsbD 0 = (changes.lookup .c).getD (old.getLsbD 0) ∧ new.getLsbD 1 = (changes.lookup .z).getD (old.getLsbD 1) ∧
    new.getLsbD 2 = (changes.lookup .i).getD (old.getLsbD 2) ∧ new.getLsbD 3 = (changes.lookup .d).getD (old.getLsbD 3) ∧
    new.getLsbD 4 = (changes.lookup .b).getD (old.getLsbD 4) ∧ new.getLsbD 5 = (changes.lookup .u).getD (old.getLsbD 5) ∧
    new.getLsbD 6 = (changes.lookup .v).getD (old.getLsbD 6) ∧ new.getLsbD 7 = (changes.lookup .n).getD (old.getLsbD 7) := by
  constructor
  · intro h
    exact ⟨h .c, h .z, h .i, h .d, h .b, h .u, h .v, h .n⟩
  · rintro ⟨_, _, _, _, _, _, _, _⟩ f
    cases f <;> assumption

/-- The position of a flag is a bit of the byte. -/
theorem Flag.pos_lt (f : Flag) : f.pos < 8 := by cases f <;> decide

/-- Setting one flag. -/
theorem flagsAfter_setBit (p : Byte) (f : Flag) (b : Bool) : FlagsAfter p (setBit p f.pos b) [(f, b)] := by
  intro g
  rw [getLsbD_setBit _ _ _ _ f.pos_lt]
  cases f <;> cases g <;> rfl

/-- One change after others. -/
theorem FlagsAfter.thenSetBit {p q : Byte} {changes : List (Flag × Bool)} (h : FlagsAfter p q changes) (f : Flag) (b : Bool) :
    FlagsAfter p (setBit q f.pos b) ((f, b) :: changes) := by
  intro g
  rw [getLsbD_setBit _ _ _ _ f.pos_lt, List.lookup_cons]
  by_cases hgf : g = f
  · subst hgf
    simp
  · have hp : g.pos ≠ f.pos := by cases f <;> cases g <;> simp_all [Flag.pos]
    have hb : (g == f) = false := beq_false_of_ne hgf
    rw [if_neg hp, hb, h g]

/-- No change. -/
theorem FlagsAfter.refl (p : Byte) : FlagsAfter p p [] := fun _ => rfl

/-- `SetZN` after other changes: they are written over (R16). -/
theorem FlagsAfter.thenSetZN {p : Byte} {s : State} {changes : List (Flag × Bool)} (h : FlagsAfter p s.p changes) (r : Byte) :
    FlagsAfter p (setZN r s).p (zn r ++ changes) := by
  intro f
  have := ((h.thenSetBit .z (r == 0)).thenSetBit .n (r.getLsbD 7)) f
  simp only [setZN_p]
  rw [show setBit (setBit s.p 1 (r == 0)) 7 (r.getLsbD 7) =
    setBit (setBit s.p Flag.z.pos (r == 0)) Flag.n.pos (r.getLsbD 7) from rfl, this]
  cases f <;> rfl

/-- `SetZN` from unchanged flags (R16). -/
theorem flagsAfter_setZN (r : Byte) (s : State) : FlagsAfter s.p (setZN r s).p (zn r) := by
  have := (FlagsAfter.refl s.p).thenSetZN r
  rwa [List.append_nil] at this

/-- Two lists of changes that look up alike say the same. -/
theorem FlagsAfter.congr {p q : Byte} {l l' : List (Flag × Bool)} (h : FlagsAfter p q l)
    (hl : ∀ f, l.lookup f = l'.lookup f) : FlagsAfter p q l' := fun f => by rw [← hl]; exact h f

/-! ### Reads -/

theorem SameOutside.refl (s : State) : SameOutside s s := ⟨rfl, rfl, rfl, rfl, rfl, rfl, rfl, rfl, rfl⟩

theorem SameRegisters.refl (s : State) : SameRegisters s s := ⟨rfl, rfl, rfl, rfl⟩

/-- Reading an operand changes at most what one bus read changes. -/
theorem readSource_frame (o : Source) (s : State) : (readSource o s).2 = { s with
    ctl := (readSource o s).2.ctl, ppu := (readSource o s).2.ppu, apu := (readSource o s).2.apu
    draws := (readSource o s).2.draws } := by
  cases o with
  | imm n => rfl
  | mem m => exact busRead_frame _ s

@[simp] theorem readSource_a (o : Source) (s : State) : (readSource o s).2.a = s.a := by rw [readSource_frame]
@[simp] theorem readSource_x (o : Source) (s : State) : (readSource o s).2.x = s.x := by rw [readSource_frame]
@[simp] theorem readSource_y (o : Source) (s : State) : (readSource o s).2.y = s.y := by rw [readSource_frame]
@[simp] theorem readSource_sp (o : Source) (s : State) : (readSource o s).2.sp = s.sp := by rw [readSource_frame]
@[simp] theorem readSource_p (o : Source) (s : State) : (readSource o s).2.p = s.p := by rw [readSource_frame]
@[simp] theorem readSource_pc (o : Source) (s : State) : (readSource o s).2.pc = s.pc := by rw [readSource_frame]
@[simp] theorem readSource_cycles (o : Source) (s : State) : (readSource o s).2.cycles = s.cycles := by rw [readSource_frame]
@[simp] theorem readSource_fault (o : Source) (s : State) : (readSource o s).2.fault = s.fault := by rw [readSource_frame]
@[simp] theorem readSource_ram (o : Source) (s : State) : (readSource o s).2.ram = s.ram := by rw [readSource_frame]
@[simp] theorem readSource_cart (o : Source) (s : State) : (readSource o s).2.cart = s.cart := by rw [readSource_frame]
@[simp] theorem readSource_cfg (o : Source) (s : State) : (readSource o s).2.cfg = s.cfg := by rw [readSource_frame]
@[simp] theorem readSource_samples (o : Source) (s : State) : (readSource o s).2.samples = s.samples := by rw [readSource_frame]

theorem readSource_c (o : Source) (s : State) : (readSource o s).2.c = s.c := by simp [State.c]

/-- What a read instruction does: it answers f's result on the operand, with its cycles added. -/
theorem readWith_next (cyc : Nat) (o : Source) (f : Byte → State → State) (s : State) :
    readWith cyc o f s = .next (spend (cyc + pagePenalty o s) (f (readSource o s).1 (readSource o s).2)) := rfl

/-! ### Writes -/

/-- A DMA stall is an addition to the instruction's own count (R221). -/
theorem writeCycles_eq (own : Nat) (addr : Word) (c : Nat) :
    writeCycles own addr c = own + if addr = 0x4014 then 513 + (c + own) % 2 else 0 := by
  unfold writeCycles
  split <;> omega

/-- What a store does. -/
theorem storeAt_next (cyc : Nat) (addr : Word) (v : Byte) (s : State) :
    storeAt cyc addr v s = .next (spend (writeCycles cyc addr s.cycles) (busWrite addr v s)) := rfl

/-! ### The stack -/

/-- A stack address is in page 1 (R206). -/
theorem stackAddr_toNat (sp : Byte) : (stackAddr sp).toNat = 0x100 + sp.toNat := by
  simp only [stackAddr, BitVec.toNat_add, BitVec.toNat_setWidth]
  have := sp.isLt
  simp
  omega

/-- A push is one byte of internal RAM and the pointer (R15). -/
theorem push_eq (v : Byte) (s : State) :
    push v s = { s with ram := Cells.write s.ram (0x100 + s.sp.toNat) v, sp := s.sp - 1 } := by
  have h := stackAddr_toNat s.sp
  have hs := s.sp.isLt
  simp only [push]
  rw [busWrite_to_ram v s (by omega), h, Nat.mod_eq_of_lt (by omega)]

/-- A pull is one byte of internal RAM and the pointer (R15). -/
theorem pull_eq (s : State) : pull s = (Cells.read s.ram (0x100 + (s.sp + 1).toNat), { s with sp := s.sp + 1 }) := by
  have h := stackAddr_toNat (s.sp + 1)
  have hs := (s.sp + 1).isLt
  simp only [pull]
  rw [busRead_of_ram _ (by omega), h, Nat.mod_eq_of_lt (by omega)]

/-- A pushed word: high byte, then low byte (R210). -/
theorem pushWord_eq (v : Word) (s : State) : pushWord v s = { s with
    ram := Cells.write (Cells.write s.ram (0x100 + s.sp.toNat) (highByte v)) (0x100 + (s.sp - 1).toNat) (lowByte v)
    sp := s.sp - 1 - 1 } := by
  simp only [pushWord, push_eq]

/-- A pulled word: low byte, then high byte (R562). -/
theorem pullWord_eq (s : State) : pullWord s =
    (hiLo (Cells.read s.ram (0x100 + (s.sp + 1 + 1).toNat)) (Cells.read s.ram (0x100 + (s.sp + 1).toNat)),
      { s with sp := s.sp + 1 + 1 }) := by
  simp only [pullWord, pull_eq]

/-- A vector read in cartridge space has no side effect (R205, R710). -/
theorem readWord_cart {a : Word} (s : State) (h : 0x6000 ≤ a.toNat) (h' : a.toNat < 0xFFFF) :
    readWord a s = (hiLo (s.cart.read (a.toNat + 1)) (s.cart.read a.toNat), s) := by
  have h1 : (a + 1).toNat = a.toNat + 1 := by simp [BitVec.toNat_add]; omega
  simp only [readWord]
  rw [busRead_of_cart s h, busRead_of_cart s (by omega), h1]

/-- Taking an exception through a vector in cartridge space (R564, R710). -/
theorem takeException_eq {vec : Word} (b : Byte) (s : State) (h : 0x6000 ≤ vec.toNat) (h' : vec.toNat < 0xFFFF) :
    takeException vec b s = { s with
      ram := Cells.write (Cells.write (Cells.write s.ram (0x100 + s.sp.toNat) (highByte s.pc))
        (0x100 + (s.sp - 1).toNat) (lowByte s.pc)) (0x100 + (s.sp - 1 - 1).toNat) b
      sp := s.sp - 1 - 1 - 1
      p := setBit s.p 2 true
      pc := hiLo (s.cart.read (vec.toNat + 1)) (s.cart.read vec.toNat) } := by
  simp only [takeException, pushWord_eq, push_eq]
  rw [readWord_cart _ h h']

/-- Returning from an exception (R563). -/
theorem returnFromException_eq (s : State) : returnFromException s = { s with
    sp := s.sp + 1 + 1 + 1
    p := pulledStatus (Cells.read s.ram (0x100 + (s.sp + 1).toNat))
    pc := hiLo (Cells.read s.ram (0x100 + (s.sp + 1 + 1 + 1).toNat)) (Cells.read s.ram (0x100 + (s.sp + 1 + 1).toNat)) } := by
  simp only [returnFromException, pull_eq, pullWord_eq]

/-! ### Effective addresses -/

/-- A zero-page pointer is two bytes of internal RAM (R309, R312). -/
theorem zeroPagePointer_eq (z : Byte) (s : State) :
    zeroPagePointer z s = hiLo (Cells.read s.ram (z + 1).toNat) (Cells.read s.ram z.toNat) := by
  have hz (z : Byte) : (zeroPage z).toNat = z.toNat := by
    simp only [zeroPage, BitVec.toNat_setWidth]
    have := z.isLt
    omega
  have h1 := (z + 1).isLt
  have h0 := z.isLt
  simp only [zeroPagePointer]
  rw [busRead_of_ram _ (by rw [hz]; omega), busRead_of_ram _ (by rw [hz]; omega), hz, hz, Nat.mod_eq_of_lt (by omega),
    Nat.mod_eq_of_lt (by omega)]

end Sys2Proof.Machine
end

