-- ==== Sys2Proof/Laws/Numbers.lean ====
section
/-! SUPPORT. The byte operations of the instructions as numbers, the status bytes of the stack as flag lists, and the
base cycles of an instruction from its row. -/

namespace Sys2Proof.Machine

/-! ### Bytes as numbers -/

/-- Bit 0 is oddness. -/
theorem getLsbD_zero_eq (x : Byte) : x.getLsbD 0 = decide (x.toNat % 2 = 1) := by
  rw [BitVec.getLsbD]
  simp [Nat.testBit_zero]

/-- Bit 7 is the top half. -/
theorem getLsbD_seven_eq (x : Byte) : x.getLsbD 7 = decide (128 ≤ x.toNat) := by
  rw [show x.getLsbD 7 = x.msb from rfl, BitVec.msb_eq_decide]

/-- ASL (R501). -/
theorem shl_eq : ∀ m : Byte, m <<< 1 = BitVec.ofNat 8 (2 * m.toNat) := by decide +kernel

/-- LSR (R502). -/
theorem shr_eq : ∀ m : Byte, m >>> 1 = BitVec.ofNat 8 (m.toNat / 2) := by decide +kernel

/-- ROL (R503). -/
theorem rol_eq : ∀ (c : Bool) (m : Byte), setBit (m <<< 1) 0 c = BitVec.ofNat 8 (2 * m.toNat + bit c) := by
  decide +kernel

/-- ROR (R504). -/
theorem ror_eq : ∀ (c : Bool) (m : Byte), setBit (m >>> 1) 7 c = BitVec.ofNat 8 (m.toNat / 2 + 128 * bit c) := by
  decide +kernel

/-- INC (R460). -/
theorem inc_eq : ∀ m : Byte, m + 1 = BitVec.ofNat 8 (m.toNat + 1) := by decide +kernel

/-- DEC (R461). -/
theorem dec_eq : ∀ m : Byte, m - 1 = BitVec.ofNat 8 (m.toNat + 255) := by decide +kernel

/-- The complement SBC adds (R452). -/
theorem xor_255_toNat : ∀ m : Byte, (m ^^^ 0xFF).toNat = 255 - m.toNat := by decide +kernel

/-- A difference modulo 256 (R448). -/
theorem sub_ofInt (a m : Byte) : BitVec.ofInt 8 (a.toNat - m.toNat) = a - m := by
  apply BitVec.eq_of_toNat_eq
  rw [BitVec.toNat_ofInt, BitVec.toNat_sub]
  have := a.isLt
  have := m.isLt
  omega

/-- The two bytes of a word, as a number. -/
theorem high_low_toNat (w : Word) : 256 * (highByte w).toNat + (lowByte w).toNat = w.toNat := by
  rw [← hiLo_toNat, hiLo_high_low]

/-- Setting a bit to what it is. -/
theorem setBit_self : ∀ p : Byte, setBit p 0 (p.getLsbD 0) = p := by decide +kernel

/-! ### Status bytes on the stack -/

/-- PHP and BRK (R113). -/
theorem flagsAfter_pushedStatus (p : Byte) : FlagsAfter p (pushedStatus p) [(.b, true), (.u, true)] := by
  revert p
  simp only [flagsAfter_iff]
  decide +kernel

/-- NMI and IRQ (R710). -/
theorem flagsAfter_entryStatus (p : Byte) : FlagsAfter p (entryStatus p) [(.b, false), (.u, true)] := by
  revert p
  simp only [flagsAfter_iff]
  decide +kernel

/-- PLP and RTI (R113). -/
theorem flagsAfter_pulledStatus (p : Byte) : FlagsAfter p (pulledStatus p) [(.b, false), (.u, true)] := by
  revert p
  simp only [flagsAfter_iff]
  decide +kernel

/-! ### Base cycles -/

/-- The base cycles of a mnemonic whose rows all have the same (R330). -/
theorem cycles_of_mnemonic {m : Mnemonic} {n : Nat} (h : ∀ b : Byte, (rowOf b).1 = m → opcodeCycles b = n) (i : Instr)
    (hi : i.mnemonic = m) : i.cycles = n := by
  apply h
  rw [rowOf_opcode, hi]

/-- The base cycles of a mnemonic in one mode (R330). -/
theorem cycles_of_row {m : Mnemonic} {mode : Mode} {n : Nat} (h : ∀ b : Byte, rowOf b = (m, mode) → opcodeCycles b = n)
    (i : Instr) (hi : i.mnemonic = m) (hm : modeOf i.form = mode) : i.cycles = n := by
  apply h
  rw [rowOf_opcode, hi, hm]

end Sys2Proof.Machine
end

