-- ==== Sys2Proof/Laws/PerInstr.lean ====
section
/-! SUPPORT. Statements about every instruction as syntax, one lemma per constructor.

`EncodedLength`: the bytes an instruction is encoded in are its opcode and as many operand bytes as R301's table gives
its mode, which is also what the decoder's row for its opcode reads (R300, R301). -/

namespace Sys2Proof

/-- The operand bytes the decoder reads for a row. -/
def Laws.EncodedLength.rowBytes : Row → Nat
  | .none _ => 0
  | .byte _ => 1
  | .word _ => 2

/-- The encoded length is 1 and the mode's operand bytes, and the opcode's row reads that many (R300, R301). -/
def Laws.EncodedLength.Statement (i : Instr) : Prop :=
  (encode i).length = 1 + i.form.operandLength ∧ Laws.EncodedLength.rowBytes (decodeRow i.opcode) = i.form.operandLength

theorem Laws.EncodedLength.brk (sig : Byte) : Laws.EncodedLength.Statement (.brk sig) := ⟨rfl, rfl⟩
theorem Laws.EncodedLength.oraIzx (n : Byte) : Laws.EncodedLength.Statement (.oraIzx n) := ⟨rfl, rfl⟩
theorem Laws.EncodedLength.sloIzx (n : Byte) : Laws.EncodedLength.Statement (.sloIzx n) := ⟨rfl, rfl⟩
theorem Laws.EncodedLength.nopZp04 (n : Byte) : Laws.EncodedLength.Statement (.nopZp04 n) := ⟨rfl, rfl⟩
theorem Laws.EncodedLength.oraZp (n : Byte) : Laws.EncodedLength.Statement (.oraZp n) := ⟨rfl, rfl⟩
theorem Laws.EncodedLength.aslZp (n : Byte) : Laws.EncodedLength.Statement (.aslZp n) := ⟨rfl, rfl⟩
theorem Laws.EncodedLength.sloZp (n : Byte) : Laws.EncodedLength.Statement (.sloZp n) := ⟨rfl, rfl⟩
theorem Laws.EncodedLength.oraImm (n : Byte) : Laws.EncodedLength.Statement (.oraImm n) := ⟨rfl, rfl⟩
theorem Laws.EncodedLength.ancImm0B (n : Byte) : Laws.EncodedLength.Statement (.ancImm0B n) := ⟨rfl, rfl⟩
theorem Laws.EncodedLength.nopAbs (a : Word) : Laws.EncodedLength.Statement (.nopAbs a) := ⟨rfl, rfl⟩
theorem Laws.EncodedLength.oraAbs (a : Word) : Laws.EncodedLength.Statement (.oraAbs a) := ⟨rfl, rfl⟩
theorem Laws.EncodedLength.aslAbs (a : Word) : Laws.EncodedLength.Statement (.aslAbs a) := ⟨rfl, rfl⟩
theorem Laws.EncodedLength.sloAbs (a : Word) : Laws.EncodedLength.Statement (.sloAbs a) := ⟨rfl, rfl⟩
theorem Laws.EncodedLength.bpl (d : Int) : Laws.EncodedLength.Statement (.bpl d) := ⟨rfl, rfl⟩
theorem Laws.EncodedLength.oraIzy (n : Byte) : Laws.EncodedLength.Statement (.oraIzy n) := ⟨rfl, rfl⟩
theorem Laws.EncodedLength.sloIzy (n : Byte) : Laws.EncodedLength.Statement (.sloIzy n) := ⟨rfl, rfl⟩
theorem Laws.EncodedLength.nopZpx14 (n : Byte) : Laws.EncodedLength.Statement (.nopZpx14 n) := ⟨rfl, rfl⟩
theorem Laws.EncodedLength.oraZpx (n : Byte) : Laws.EncodedLength.Statement (.oraZpx n) := ⟨rfl, rfl⟩
theorem Laws.EncodedLength.aslZpx (n : Byte) : Laws.EncodedLength.Statement (.aslZpx n) := ⟨rfl, rfl⟩
theorem Laws.EncodedLength.sloZpx (n : Byte) : Laws.EncodedLength.Statement (.sloZpx n) := ⟨rfl, rfl⟩
theorem Laws.EncodedLength.oraAby (a : Word) : Laws.EncodedLength.Statement (.oraAby a) := ⟨rfl, rfl⟩
theorem Laws.EncodedLength.sloAby (a : Word) : Laws.EncodedLength.Statement (.sloAby a) := ⟨rfl, rfl⟩
theorem Laws.EncodedLength.nopAbx1C (a : Word) : Laws.EncodedLength.Statement (.nopAbx1C a) := ⟨rfl, rfl⟩
theorem Laws.EncodedLength.oraAbx (a : Word) : Laws.EncodedLength.Statement (.oraAbx a) := ⟨rfl, rfl⟩
theorem Laws.EncodedLength.aslAbx (a : Word) : Laws.EncodedLength.Statement (.aslAbx a) := ⟨rfl, rfl⟩
theorem Laws.EncodedLength.sloAbx (a : Word) : Laws.EncodedLength.Statement (.sloAbx a) := ⟨rfl, rfl⟩
theorem Laws.EncodedLength.jsr (a : Word) : Laws.EncodedLength.Statement (.jsr a) := ⟨rfl, rfl⟩
theorem Laws.EncodedLength.andIzx (n : Byte) : Laws.EncodedLength.Statement (.andIzx n) := ⟨rfl, rfl⟩
theorem Laws.EncodedLength.rlaIzx (n : Byte) : Laws.EncodedLength.Statement (.rlaIzx n) := ⟨rfl, rfl⟩
theorem Laws.EncodedLength.bitZp (n : Byte) : Laws.EncodedLength.Statement (.bitZp n) := ⟨rfl, rfl⟩
theorem Laws.EncodedLength.andZp (n : Byte) : Laws.EncodedLength.Statement (.andZp n) := ⟨rfl, rfl⟩
theorem Laws.EncodedLength.rolZp (n : Byte) : Laws.EncodedLength.Statement (.rolZp n) := ⟨rfl, rfl⟩
theorem Laws.EncodedLength.rlaZp (n : Byte) : Laws.EncodedLength.Statement (.rlaZp n) := ⟨rfl, rfl⟩
theorem Laws.EncodedLength.andImm (n : Byte) : Laws.EncodedLength.Statement (.andImm n) := ⟨rfl, rfl⟩
theorem Laws.EncodedLength.ancImm2B (n : Byte) : Laws.EncodedLength.Statement (.ancImm2B n) := ⟨rfl, rfl⟩
theorem Laws.EncodedLength.bitAbs (a : Word) : Laws.EncodedLength.Statement (.bitAbs a) := ⟨rfl, rfl⟩
theorem Laws.EncodedLength.andAbs (a : Word) : Laws.EncodedLength.Statement (.andAbs a) := ⟨rfl, rfl⟩
theorem Laws.EncodedLength.rolAbs (a : Word) : Laws.EncodedLength.Statement (.rolAbs a) := ⟨rfl, rfl⟩
theorem Laws.EncodedLength.rlaAbs (a : Word) : Laws.EncodedLength.Statement (.rlaAbs a) := ⟨rfl, rfl⟩
theorem Laws.EncodedLength.bmi (d : Int) : Laws.EncodedLength.Statement (.bmi d) := ⟨rfl, rfl⟩
theorem Laws.EncodedLength.andIzy (n : Byte) : Laws.EncodedLength.Statement (.andIzy n) := ⟨rfl, rfl⟩
theorem Laws.EncodedLength.rlaIzy (n : Byte) : Laws.EncodedLength.Statement (.rlaIzy n) := ⟨rfl, rfl⟩
theorem Laws.EncodedLength.nopZpx34 (n : Byte) : Laws.EncodedLength.Statement (.nopZpx34 n) := ⟨rfl, rfl⟩
theorem Laws.EncodedLength.andZpx (n : Byte) : Laws.EncodedLength.Statement (.andZpx n) := ⟨rfl, rfl⟩
theorem Laws.EncodedLength.rolZpx (n : Byte) : Laws.EncodedLength.Statement (.rolZpx n) := ⟨rfl, rfl⟩
theorem Laws.EncodedLength.rlaZpx (n : Byte) : Laws.EncodedLength.Statement (.rlaZpx n) := ⟨rfl, rfl⟩
theorem Laws.EncodedLength.andAby (a : Word) : Laws.EncodedLength.Statement (.andAby a) := ⟨rfl, rfl⟩
theorem Laws.EncodedLength.rlaAby (a : Word) : Laws.EncodedLength.Statement (.rlaAby a) := ⟨rfl, rfl⟩
theorem Laws.EncodedLength.nopAbx3C (a : Word) : Laws.EncodedLength.Statement (.nopAbx3C a) := ⟨rfl, rfl⟩
theorem Laws.EncodedLength.andAbx (a : Word) : Laws.EncodedLength.Statement (.andAbx a) := ⟨rfl, rfl⟩
theorem Laws.EncodedLength.rolAbx (a : Word) : Laws.EncodedLength.Statement (.rolAbx a) := ⟨rfl, rfl⟩
theorem Laws.EncodedLength.rlaAbx (a : Word) : Laws.EncodedLength.Statement (.rlaAbx a) := ⟨rfl, rfl⟩
theorem Laws.EncodedLength.eorIzx (n : Byte) : Laws.EncodedLength.Statement (.eorIzx n) := ⟨rfl, rfl⟩
theorem Laws.EncodedLength.sreIzx (n : Byte) : Laws.EncodedLength.Statement (.sreIzx n) := ⟨rfl, rfl⟩
theorem Laws.EncodedLength.nopZp44 (n : Byte) : Laws.EncodedLength.Statement (.nopZp44 n) := ⟨rfl, rfl⟩
theorem Laws.EncodedLength.eorZp (n : Byte) : Laws.EncodedLength.Statement (.eorZp n) := ⟨rfl, rfl⟩
theorem Laws.EncodedLength.lsrZp (n : Byte) : Laws.EncodedLength.Statement (.lsrZp n) := ⟨rfl, rfl⟩
theorem Laws.EncodedLength.sreZp (n : Byte) : Laws.EncodedLength.Statement (.sreZp n) := ⟨rfl, rfl⟩
theorem Laws.EncodedLength.eorImm (n : Byte) : Laws.EncodedLength.Statement (.eorImm n) := ⟨rfl, rfl⟩
theorem Laws.EncodedLength.alrImm (n : Byte) : Laws.EncodedLength.Statement (.alrImm n) := ⟨rfl, rfl⟩
theorem Laws.EncodedLength.jmpAbs (a : Word) : Laws.EncodedLength.Statement (.jmpAbs a) := ⟨rfl, rfl⟩
theorem Laws.EncodedLength.eorAbs (a : Word) : Laws.EncodedLength.Statement (.eorAbs a) := ⟨rfl, rfl⟩
theorem Laws.EncodedLength.lsrAbs (a : Word) : Laws.EncodedLength.Statement (.lsrAbs a) := ⟨rfl, rfl⟩
theorem Laws.EncodedLength.sreAbs (a : Word) : Laws.EncodedLength.Statement (.sreAbs a) := ⟨rfl, rfl⟩
theorem Laws.EncodedLength.bvc (d : Int) : Laws.EncodedLength.Statement (.bvc d) := ⟨rfl, rfl⟩
theorem Laws.EncodedLength.eorIzy (n : Byte) : Laws.EncodedLength.Statement (.eorIzy n) := ⟨rfl, rfl⟩
theorem Laws.EncodedLength.sreIzy (n : Byte) : Laws.EncodedLength.Statement (.sreIzy n) := ⟨rfl, rfl⟩
theorem Laws.EncodedLength.nopZpx54 (n : Byte) : Laws.EncodedLength.Statement (.nopZpx54 n) := ⟨rfl, rfl⟩
theorem Laws.EncodedLength.eorZpx (n : Byte) : Laws.EncodedLength.Statement (.eorZpx n) := ⟨rfl, rfl⟩
theorem Laws.EncodedLength.lsrZpx (n : Byte) : Laws.EncodedLength.Statement (.lsrZpx n) := ⟨rfl, rfl⟩
theorem Laws.EncodedLength.sreZpx (n : Byte) : Laws.EncodedLength.Statement (.sreZpx n) := ⟨rfl, rfl⟩
theorem Laws.EncodedLength.eorAby (a : Word) : Laws.EncodedLength.Statement (.eorAby a) := ⟨rfl, rfl⟩
theorem Laws.EncodedLength.sreAby (a : Word) : Laws.EncodedLength.Statement (.sreAby a) := ⟨rfl, rfl⟩
theorem Laws.EncodedLength.nopAbx5C (a : Word) : Laws.EncodedLength.Statement (.nopAbx5C a) := ⟨rfl, rfl⟩
theorem Laws.EncodedLength.eorAbx (a : Word) : Laws.EncodedLength.Statement (.eorAbx a) := ⟨rfl, rfl⟩
theorem Laws.EncodedLength.lsrAbx (a : Word) : Laws.EncodedLength.Statement (.lsrAbx a) := ⟨rfl, rfl⟩
theorem Laws.EncodedLength.sreAbx (a : Word) : Laws.EncodedLength.Statement (.sreAbx a) := ⟨rfl, rfl⟩
theorem Laws.EncodedLength.adcIzx (n : Byte) : Laws.EncodedLength.Statement (.adcIzx n) := ⟨rfl, rfl⟩
theorem Laws.EncodedLength.rraIzx (n : Byte) : Laws.EncodedLength.Statement (.rraIzx n) := ⟨rfl, rfl⟩
theorem Laws.EncodedLength.nopZp64 (n : Byte) : Laws.EncodedLength.Statement (.nopZp64 n) := ⟨rfl, rfl⟩
theorem Laws.EncodedLength.adcZp (n : Byte) : Laws.EncodedLength.Statement (.adcZp n) := ⟨rfl, rfl⟩
theorem Laws.EncodedLength.rorZp (n : Byte) : Laws.EncodedLength.Statement (.rorZp n) := ⟨rfl, rfl⟩
theorem Laws.EncodedLength.rraZp (n : Byte) : Laws.EncodedLength.Statement (.rraZp n) := ⟨rfl, rfl⟩
theorem Laws.EncodedLength.adcImm (n : Byte) : Laws.EncodedLength.Statement (.adcImm n) := ⟨rfl, rfl⟩
theorem Laws.EncodedLength.arrImm (n : Byte) : Laws.EncodedLength.Statement (.arrImm n) := ⟨rfl, rfl⟩
theorem Laws.EncodedLength.jmpInd (a : Word) : Laws.EncodedLength.Statement (.jmpInd a) := ⟨rfl, rfl⟩
theorem Laws.EncodedLength.adcAbs (a : Word) : Laws.EncodedLength.Statement (.adcAbs a) := ⟨rfl, rfl⟩
theorem Laws.EncodedLength.rorAbs (a : Word) : Laws.EncodedLength.Statement (.rorAbs a) := ⟨rfl, rfl⟩
theorem Laws.EncodedLength.rraAbs (a : Word) : Laws.EncodedLength.Statement (.rraAbs a) := ⟨rfl, rfl⟩
theorem Laws.EncodedLength.bvs (d : Int) : Laws.EncodedLength.Statement (.bvs d) := ⟨rfl, rfl⟩
theorem Laws.EncodedLength.adcIzy (n : Byte) : Laws.EncodedLength.Statement (.adcIzy n) := ⟨rfl, rfl⟩
theorem Laws.EncodedLength.rraIzy (n : Byte) : Laws.EncodedLength.Statement (.rraIzy n) := ⟨rfl, rfl⟩
theorem Laws.EncodedLength.nopZpx74 (n : Byte) : Laws.EncodedLength.Statement (.nopZpx74 n) := ⟨rfl, rfl⟩
theorem Laws.EncodedLength.adcZpx (n : Byte) : Laws.EncodedLength.Statement (.adcZpx n) := ⟨rfl, rfl⟩
theorem Laws.EncodedLength.rorZpx (n : Byte) : Laws.EncodedLength.Statement (.rorZpx n) := ⟨rfl, rfl⟩
theorem Laws.EncodedLength.rraZpx (n : Byte) : Laws.EncodedLength.Statement (.rraZpx n) := ⟨rfl, rfl⟩
theorem Laws.EncodedLength.adcAby (a : Word) : Laws.EncodedLength.Statement (.adcAby a) := ⟨rfl, rfl⟩
theorem Laws.EncodedLength.rraAby (a : Word) : Laws.EncodedLength.Statement (.rraAby a) := ⟨rfl, rfl⟩
theorem Laws.EncodedLength.nopAbx7C (a : Word) : Laws.EncodedLength.Statement (.nopAbx7C a) := ⟨rfl, rfl⟩
theorem Laws.EncodedLength.adcAbx (a : Word) : Laws.EncodedLength.Statement (.adcAbx a) := ⟨rfl, rfl⟩
theorem Laws.EncodedLength.rorAbx (a : Word) : Laws.EncodedLength.Statement (.rorAbx a) := ⟨rfl, rfl⟩
theorem Laws.EncodedLength.rraAbx (a : Word) : Laws.EncodedLength.Statement (.rraAbx a) := ⟨rfl, rfl⟩
theorem Laws.EncodedLength.nopImm80 (n : Byte) : Laws.EncodedLength.Statement (.nopImm80 n) := ⟨rfl, rfl⟩
theorem Laws.EncodedLength.staIzx (n : Byte) : Laws.EncodedLength.Statement (.staIzx n) := ⟨rfl, rfl⟩
theorem Laws.EncodedLength.nopImm82 (n : Byte) : Laws.EncodedLength.Statement (.nopImm82 n) := ⟨rfl, rfl⟩
theorem Laws.EncodedLength.saxIzx (n : Byte) : Laws.EncodedLength.Statement (.saxIzx n) := ⟨rfl, rfl⟩
theorem Laws.EncodedLength.styZp (n : Byte) : Laws.EncodedLength.Statement (.styZp n) := ⟨rfl, rfl⟩
theorem Laws.EncodedLength.staZp (n : Byte) : Laws.EncodedLength.Statement (.staZp n) := ⟨rfl, rfl⟩
theorem Laws.EncodedLength.stxZp (n : Byte) : Laws.EncodedLength.Statement (.stxZp n) := ⟨rfl, rfl⟩
theorem Laws.EncodedLength.saxZp (n : Byte) : Laws.EncodedLength.Statement (.saxZp n) := ⟨rfl, rfl⟩
theorem Laws.EncodedLength.nopImm89 (n : Byte) : Laws.EncodedLength.Statement (.nopImm89 n) := ⟨rfl, rfl⟩
theorem Laws.EncodedLength.aneImm (n : Byte) : Laws.EncodedLength.Statement (.aneImm n) := ⟨rfl, rfl⟩
theorem Laws.EncodedLength.styAbs (a : Word) : Laws.EncodedLength.Statement (.styAbs a) := ⟨rfl, rfl⟩
theorem Laws.EncodedLength.staAbs (a : Word) : Laws.EncodedLength.Statement (.staAbs a) := ⟨rfl, rfl⟩
theorem Laws.EncodedLength.stxAbs (a : Word) : Laws.EncodedLength.Statement (.stxAbs a) := ⟨rfl, rfl⟩
theorem Laws.EncodedLength.saxAbs (a : Word) : Laws.EncodedLength.Statement (.saxAbs a) := ⟨rfl, rfl⟩
theorem Laws.EncodedLength.bcc (d : Int) : Laws.EncodedLength.Statement (.bcc d) := ⟨rfl, rfl⟩
theorem Laws.EncodedLength.staIzy (n : Byte) : Laws.EncodedLength.Statement (.staIzy n) := ⟨rfl, rfl⟩
theorem Laws.EncodedLength.shaIzy (n : Byte) : Laws.EncodedLength.Statement (.shaIzy n) := ⟨rfl, rfl⟩
theorem Laws.EncodedLength.styZpx (n : Byte) : Laws.EncodedLength.Statement (.styZpx n) := ⟨rfl, rfl⟩
theorem Laws.EncodedLength.staZpx (n : Byte) : Laws.EncodedLength.Statement (.staZpx n) := ⟨rfl, rfl⟩
theorem Laws.EncodedLength.stxZpy (n : Byte) : Laws.EncodedLength.Statement (.stxZpy n) := ⟨rfl, rfl⟩
theorem Laws.EncodedLength.saxZpy (n : Byte) : Laws.EncodedLength.Statement (.saxZpy n) := ⟨rfl, rfl⟩
theorem Laws.EncodedLength.staAby (a : Word) : Laws.EncodedLength.Statement (.staAby a) := ⟨rfl, rfl⟩
theorem Laws.EncodedLength.tasAby (a : Word) : Laws.EncodedLength.Statement (.tasAby a) := ⟨rfl, rfl⟩
theorem Laws.EncodedLength.shyAbx (a : Word) : Laws.EncodedLength.Statement (.shyAbx a) := ⟨rfl, rfl⟩
theorem Laws.EncodedLength.staAbx (a : Word) : Laws.EncodedLength.Statement (.staAbx a) := ⟨rfl, rfl⟩
theorem Laws.EncodedLength.shxAby (a : Word) : Laws.EncodedLength.Statement (.shxAby a) := ⟨rfl, rfl⟩
theorem Laws.EncodedLength.shaAby (a : Word) : Laws.EncodedLength.Statement (.shaAby a) := ⟨rfl, rfl⟩
theorem Laws.EncodedLength.ldyImm (n : Byte) : Laws.EncodedLength.Statement (.ldyImm n) := ⟨rfl, rfl⟩
theorem Laws.EncodedLength.ldaIzx (n : Byte) : Laws.EncodedLength.Statement (.ldaIzx n) := ⟨rfl, rfl⟩
theorem Laws.EncodedLength.ldxImm (n : Byte) : Laws.EncodedLength.Statement (.ldxImm n) := ⟨rfl, rfl⟩
theorem Laws.EncodedLength.laxIzx (n : Byte) : Laws.EncodedLength.Statement (.laxIzx n) := ⟨rfl, rfl⟩
theorem Laws.EncodedLength.ldyZp (n : Byte) : Laws.EncodedLength.Statement (.ldyZp n) := ⟨rfl, rfl⟩
theorem Laws.EncodedLength.ldaZp (n : Byte) : Laws.EncodedLength.Statement (.ldaZp n) := ⟨rfl, rfl⟩
theorem Laws.EncodedLength.ldxZp (n : Byte) : Laws.EncodedLength.Statement (.ldxZp n) := ⟨rfl, rfl⟩
theorem Laws.EncodedLength.laxZp (n : Byte) : Laws.EncodedLength.Statement (.laxZp n) := ⟨rfl, rfl⟩
theorem Laws.EncodedLength.ldaImm (n : Byte) : Laws.EncodedLength.Statement (.ldaImm n) := ⟨rfl, rfl⟩
theorem Laws.EncodedLength.lxaImm (n : Byte) : Laws.EncodedLength.Statement (.lxaImm n) := ⟨rfl, rfl⟩
theorem Laws.EncodedLength.ldyAbs (a : Word) : Laws.EncodedLength.Statement (.ldyAbs a) := ⟨rfl, rfl⟩
theorem Laws.EncodedLength.ldaAbs (a : Word) : Laws.EncodedLength.Statement (.ldaAbs a) := ⟨rfl, rfl⟩
theorem Laws.EncodedLength.ldxAbs (a : Word) : Laws.EncodedLength.Statement (.ldxAbs a) := ⟨rfl, rfl⟩
theorem Laws.EncodedLength.laxAbs (a : Word) : Laws.EncodedLength.Statement (.laxAbs a) := ⟨rfl, rfl⟩
theorem Laws.EncodedLength.bcs (d : Int) : Laws.EncodedLength.Statement (.bcs d) := ⟨rfl, rfl⟩
theorem Laws.EncodedLength.ldaIzy (n : Byte) : Laws.EncodedLength.Statement (.ldaIzy n) := ⟨rfl, rfl⟩
theorem Laws.EncodedLength.laxIzy (n : Byte) : Laws.EncodedLength.Statement (.laxIzy n) := ⟨rfl, rfl⟩
theorem Laws.EncodedLength.ldyZpx (n : Byte) : Laws.EncodedLength.Statement (.ldyZpx n) := ⟨rfl, rfl⟩
theorem Laws.EncodedLength.ldaZpx (n : Byte) : Laws.EncodedLength.Statement (.ldaZpx n) := ⟨rfl, rfl⟩
theorem Laws.EncodedLength.ldxZpy (n : Byte) : Laws.EncodedLength.Statement (.ldxZpy n) := ⟨rfl, rfl⟩
theorem Laws.EncodedLength.laxZpy (n : Byte) : Laws.EncodedLength.Statement (.laxZpy n) := ⟨rfl, rfl⟩
theorem Laws.EncodedLength.ldaAby (a : Word) : Laws.EncodedLength.Statement (.ldaAby a) := ⟨rfl, rfl⟩
theorem Laws.EncodedLength.lasAby (a : Word) : Laws.EncodedLength.Statement (.lasAby a) := ⟨rfl, rfl⟩
theorem Laws.EncodedLength.ldyAbx (a : Word) : Laws.EncodedLength.Statement (.ldyAbx a) := ⟨rfl, rfl⟩
theorem Laws.EncodedLength.ldaAbx (a : Word) : Laws.EncodedLength.Statement (.ldaAbx a) := ⟨rfl, rfl⟩
theorem Laws.EncodedLength.ldxAby (a : Word) : Laws.EncodedLength.Statement (.ldxAby a) := ⟨rfl, rfl⟩
theorem Laws.EncodedLength.laxAby (a : Word) : Laws.EncodedLength.Statement (.laxAby a) := ⟨rfl, rfl⟩
theorem Laws.EncodedLength.cpyImm (n : Byte) : Laws.EncodedLength.Statement (.cpyImm n) := ⟨rfl, rfl⟩
theorem Laws.EncodedLength.cmpIzx (n : Byte) : Laws.EncodedLength.Statement (.cmpIzx n) := ⟨rfl, rfl⟩
theorem Laws.EncodedLength.nopImmC2 (n : Byte) : Laws.EncodedLength.Statement (.nopImmC2 n) := ⟨rfl, rfl⟩
theorem Laws.EncodedLength.dcpIzx (n : Byte) : Laws.EncodedLength.Statement (.dcpIzx n) := ⟨rfl, rfl⟩
theorem Laws.EncodedLength.cpyZp (n : Byte) : Laws.EncodedLength.Statement (.cpyZp n) := ⟨rfl, rfl⟩
theorem Laws.EncodedLength.cmpZp (n : Byte) : Laws.EncodedLength.Statement (.cmpZp n) := ⟨rfl, rfl⟩
theorem Laws.EncodedLength.decZp (n : Byte) : Laws.EncodedLength.Statement (.decZp n) := ⟨rfl, rfl⟩
theorem Laws.EncodedLength.dcpZp (n : Byte) : Laws.EncodedLength.Statement (.dcpZp n) := ⟨rfl, rfl⟩
theorem Laws.EncodedLength.cmpImm (n : Byte) : Laws.EncodedLength.Statement (.cmpImm n) := ⟨rfl, rfl⟩
theorem Laws.EncodedLength.sbxImm (n : Byte) : Laws.EncodedLength.Statement (.sbxImm n) := ⟨rfl, rfl⟩
theorem Laws.EncodedLength.cpyAbs (a : Word) : Laws.EncodedLength.Statement (.cpyAbs a) := ⟨rfl, rfl⟩
theorem Laws.EncodedLength.cmpAbs (a : Word) : Laws.EncodedLength.Statement (.cmpAbs a) := ⟨rfl, rfl⟩
theorem Laws.EncodedLength.decAbs (a : Word) : Laws.EncodedLength.Statement (.decAbs a) := ⟨rfl, rfl⟩
theorem Laws.EncodedLength.dcpAbs (a : Word) : Laws.EncodedLength.Statement (.dcpAbs a) := ⟨rfl, rfl⟩
theorem Laws.EncodedLength.bne (d : Int) : Laws.EncodedLength.Statement (.bne d) := ⟨rfl, rfl⟩
theorem Laws.EncodedLength.cmpIzy (n : Byte) : Laws.EncodedLength.Statement (.cmpIzy n) := ⟨rfl, rfl⟩
theorem Laws.EncodedLength.dcpIzy (n : Byte) : Laws.EncodedLength.Statement (.dcpIzy n) := ⟨rfl, rfl⟩
theorem Laws.EncodedLength.nopZpxD4 (n : Byte) : Laws.EncodedLength.Statement (.nopZpxD4 n) := ⟨rfl, rfl⟩
theorem Laws.EncodedLength.cmpZpx (n : Byte) : Laws.EncodedLength.Statement (.cmpZpx n) := ⟨rfl, rfl⟩
theorem Laws.EncodedLength.decZpx (n : Byte) : Laws.EncodedLength.Statement (.decZpx n) := ⟨rfl, rfl⟩
theorem Laws.EncodedLength.dcpZpx (n : Byte) : Laws.EncodedLength.Statement (.dcpZpx n) := ⟨rfl, rfl⟩
theorem Laws.EncodedLength.cmpAby (a : Word) : Laws.EncodedLength.Statement (.cmpAby a) := ⟨rfl, rfl⟩
theorem Laws.EncodedLength.dcpAby (a : Word) : Laws.EncodedLength.Statement (.dcpAby a) := ⟨rfl, rfl⟩
theorem Laws.EncodedLength.nopAbxDC (a : Word) : Laws.EncodedLength.Statement (.nopAbxDC a) := ⟨rfl, rfl⟩
theorem Laws.EncodedLength.cmpAbx (a : Word) : Laws.EncodedLength.Statement (.cmpAbx a) := ⟨rfl, rfl⟩
theorem Laws.EncodedLength.decAbx (a : Word) : Laws.EncodedLength.Statement (.decAbx a) := ⟨rfl, rfl⟩
theorem Laws.EncodedLength.dcpAbx (a : Word) : Laws.EncodedLength.Statement (.dcpAbx a) := ⟨rfl, rfl⟩
theorem Laws.EncodedLength.cpxImm (n : Byte) : Laws.EncodedLength.Statement (.cpxImm n) := ⟨rfl, rfl⟩
theorem Laws.EncodedLength.sbcIzx (n : Byte) : Laws.EncodedLength.Statement (.sbcIzx n) := ⟨rfl, rfl⟩
theorem Laws.EncodedLength.nopImmE2 (n : Byte) : Laws.EncodedLength.Statement (.nopImmE2 n) := ⟨rfl, rfl⟩
theorem Laws.EncodedLength.iscIzx (n : Byte) : Laws.EncodedLength.Statement (.iscIzx n) := ⟨rfl, rfl⟩
theorem Laws.EncodedLength.cpxZp (n : Byte) : Laws.EncodedLength.Statement (.cpxZp n) := ⟨rfl, rfl⟩
theorem Laws.EncodedLength.sbcZp (n : Byte) : Laws.EncodedLength.Statement (.sbcZp n) := ⟨rfl, rfl⟩
theorem Laws.EncodedLength.incZp (n : Byte) : Laws.EncodedLength.Statement (.incZp n) := ⟨rfl, rfl⟩
theorem Laws.EncodedLength.iscZp (n : Byte) : Laws.EncodedLength.Statement (.iscZp n) := ⟨rfl, rfl⟩
theorem Laws.EncodedLength.sbcImm (n : Byte) : Laws.EncodedLength.Statement (.sbcImm n) := ⟨rfl, rfl⟩
theorem Laws.EncodedLength.sbcImmEB (n : Byte) : Laws.EncodedLength.Statement (.sbcImmEB n) := ⟨rfl, rfl⟩
theorem Laws.EncodedLength.cpxAbs (a : Word) : Laws.EncodedLength.Statement (.cpxAbs a) := ⟨rfl, rfl⟩
theorem Laws.EncodedLength.sbcAbs (a : Word) : Laws.EncodedLength.Statement (.sbcAbs a) := ⟨rfl, rfl⟩
theorem Laws.EncodedLength.incAbs (a : Word) : Laws.EncodedLength.Statement (.incAbs a) := ⟨rfl, rfl⟩
theorem Laws.EncodedLength.iscAbs (a : Word) : Laws.EncodedLength.Statement (.iscAbs a) := ⟨rfl, rfl⟩
theorem Laws.EncodedLength.beq (d : Int) : Laws.EncodedLength.Statement (.beq d) := ⟨rfl, rfl⟩
theorem Laws.EncodedLength.sbcIzy (n : Byte) : Laws.EncodedLength.Statement (.sbcIzy n) := ⟨rfl, rfl⟩
theorem Laws.EncodedLength.iscIzy (n : Byte) : Laws.EncodedLength.Statement (.iscIzy n) := ⟨rfl, rfl⟩
theorem Laws.EncodedLength.nopZpxF4 (n : Byte) : Laws.EncodedLength.Statement (.nopZpxF4 n) := ⟨rfl, rfl⟩
theorem Laws.EncodedLength.sbcZpx (n : Byte) : Laws.EncodedLength.Statement (.sbcZpx n) := ⟨rfl, rfl⟩
theorem Laws.EncodedLength.incZpx (n : Byte) : Laws.EncodedLength.Statement (.incZpx n) := ⟨rfl, rfl⟩
theorem Laws.EncodedLength.iscZpx (n : Byte) : Laws.EncodedLength.Statement (.iscZpx n) := ⟨rfl, rfl⟩
theorem Laws.EncodedLength.sbcAby (a : Word) : Laws.EncodedLength.Statement (.sbcAby a) := ⟨rfl, rfl⟩
theorem Laws.EncodedLength.iscAby (a : Word) : Laws.EncodedLength.Statement (.iscAby a) := ⟨rfl, rfl⟩
theorem Laws.EncodedLength.nopAbxFC (a : Word) : Laws.EncodedLength.Statement (.nopAbxFC a) := ⟨rfl, rfl⟩
theorem Laws.EncodedLength.sbcAbx (a : Word) : Laws.EncodedLength.Statement (.sbcAbx a) := ⟨rfl, rfl⟩
theorem Laws.EncodedLength.incAbx (a : Word) : Laws.EncodedLength.Statement (.incAbx a) := ⟨rfl, rfl⟩
theorem Laws.EncodedLength.iscAbx (a : Word) : Laws.EncodedLength.Statement (.iscAbx a) := ⟨rfl, rfl⟩
theorem Laws.EncodedLength.jam02 : Laws.EncodedLength.Statement .jam02 := ⟨rfl, rfl⟩
theorem Laws.EncodedLength.php : Laws.EncodedLength.Statement .php := ⟨rfl, rfl⟩
theorem Laws.EncodedLength.aslAcc : Laws.EncodedLength.Statement .aslAcc := ⟨rfl, rfl⟩
theorem Laws.EncodedLength.jam12 : Laws.EncodedLength.Statement .jam12 := ⟨rfl, rfl⟩
theorem Laws.EncodedLength.clc : Laws.EncodedLength.Statement .clc := ⟨rfl, rfl⟩
theorem Laws.EncodedLength.nop1A : Laws.EncodedLength.Statement .nop1A := ⟨rfl, rfl⟩
theorem Laws.EncodedLength.jam22 : Laws.EncodedLength.Statement .jam22 := ⟨rfl, rfl⟩
theorem Laws.EncodedLength.plp : Laws.EncodedLength.Statement .plp := ⟨rfl, rfl⟩
theorem Laws.EncodedLength.rolAcc : Laws.EncodedLength.Statement .rolAcc := ⟨rfl, rfl⟩
theorem Laws.EncodedLength.jam32 : Laws.EncodedLength.Statement .jam32 := ⟨rfl, rfl⟩
theorem Laws.EncodedLength.sec : Laws.EncodedLength.Statement .sec := ⟨rfl, rfl⟩
theorem Laws.EncodedLength.nop3A : Laws.EncodedLength.Statement .nop3A := ⟨rfl, rfl⟩
theorem Laws.EncodedLength.rti : Laws.EncodedLength.Statement .rti := ⟨rfl, rfl⟩
theorem Laws.EncodedLength.jam42 : Laws.EncodedLength.Statement .jam42 := ⟨rfl, rfl⟩
theorem Laws.EncodedLength.pha : Laws.EncodedLength.Statement .pha := ⟨rfl, rfl⟩
theorem Laws.EncodedLength.lsrAcc : Laws.EncodedLength.Statement .lsrAcc := ⟨rfl, rfl⟩
theorem Laws.EncodedLength.jam52 : Laws.EncodedLength.Statement .jam52 := ⟨rfl, rfl⟩
theorem Laws.EncodedLength.cli : Laws.EncodedLength.Statement .cli := ⟨rfl, rfl⟩
theorem Laws.EncodedLength.nop5A : Laws.EncodedLength.Statement .nop5A := ⟨rfl, rfl⟩
theorem Laws.EncodedLength.rts : Laws.EncodedLength.Statement .rts := ⟨rfl, rfl⟩
theorem Laws.EncodedLength.jam62 : Laws.EncodedLength.Statement .jam62 := ⟨rfl, rfl⟩
theorem Laws.EncodedLength.pla : Laws.EncodedLength.Statement .pla := ⟨rfl, rfl⟩
theorem Laws.EncodedLength.rorAcc : Laws.EncodedLength.Statement .rorAcc := ⟨rfl, rfl⟩
theorem Laws.EncodedLength.jam72 : Laws.EncodedLength.Statement .jam72 := ⟨rfl, rfl⟩
theorem Laws.EncodedLength.sei : Laws.EncodedLength.Statement .sei := ⟨rfl, rfl⟩
theorem Laws.EncodedLength.nop7A : Laws.EncodedLength.Statement .nop7A := ⟨rfl, rfl⟩
theorem Laws.EncodedLength.dey : Laws.EncodedLength.Statement .dey := ⟨rfl, rfl⟩
theorem Laws.EncodedLength.txa : Laws.EncodedLength.Statement .txa := ⟨rfl, rfl⟩
theorem Laws.EncodedLength.jam92 : Laws.EncodedLength.Statement .jam92 := ⟨rfl, rfl⟩
theorem Laws.EncodedLength.tya : Laws.EncodedLength.Statement .tya := ⟨rfl, rfl⟩
theorem Laws.EncodedLength.txs : Laws.EncodedLength.Statement .txs := ⟨rfl, rfl⟩
theorem Laws.EncodedLength.tay : Laws.EncodedLength.Statement .tay := ⟨rfl, rfl⟩
theorem Laws.EncodedLength.tax : Laws.EncodedLength.Statement .tax := ⟨rfl, rfl⟩
theorem Laws.EncodedLength.jamB2 : Laws.EncodedLength.Statement .jamB2 := ⟨rfl, rfl⟩
theorem Laws.EncodedLength.clv : Laws.EncodedLength.Statement .clv := ⟨rfl, rfl⟩
theorem Laws.EncodedLength.tsx : Laws.EncodedLength.Statement .tsx := ⟨rfl, rfl⟩
theorem Laws.EncodedLength.iny : Laws.EncodedLength.Statement .iny := ⟨rfl, rfl⟩
theorem Laws.EncodedLength.dex : Laws.EncodedLength.Statement .dex := ⟨rfl, rfl⟩
theorem Laws.EncodedLength.jamD2 : Laws.EncodedLength.Statement .jamD2 := ⟨rfl, rfl⟩
theorem Laws.EncodedLength.cld : Laws.EncodedLength.Statement .cld := ⟨rfl, rfl⟩
theorem Laws.EncodedLength.nopDA : Laws.EncodedLength.Statement .nopDA := ⟨rfl, rfl⟩
theorem Laws.EncodedLength.inx : Laws.EncodedLength.Statement .inx := ⟨rfl, rfl⟩
theorem Laws.EncodedLength.nop : Laws.EncodedLength.Statement .nop := ⟨rfl, rfl⟩
theorem Laws.EncodedLength.jamF2 : Laws.EncodedLength.Statement .jamF2 := ⟨rfl, rfl⟩
theorem Laws.EncodedLength.sed : Laws.EncodedLength.Statement .sed := ⟨rfl, rfl⟩
theorem Laws.EncodedLength.nopFA : Laws.EncodedLength.Statement .nopFA := ⟨rfl, rfl⟩

end Sys2Proof
end

