-- ==== Sys2Proof/Laws/Run.lean ====
section
/-! SUPPORT. What a host act and a step can do to a run. -/

namespace Sys2Proof.Machine

@[simp] theorem hostDrainFrame_of_fault {s : State} {f : FaultRecord} (h : s.fault = some f) : hostDrainFrame s = none := by
  simp [hostDrainFrame, h]

@[simp] theorem hostDrainAudio_of_fault {s : State} {f : FaultRecord} (h : s.fault = some f) : hostDrainAudio s = none := by
  simp [hostDrainAudio, h]

@[simp] theorem resetMachine_of_fault {s : State} {f : FaultRecord} (h : s.fault = some f) : resetMachine s = none := by
  simp [resetMachine, h]

@[simp] theorem resetMachine_of_none {s : State} (h : s.fault = none) : resetMachine s = some (resetRegisters s) := by
  simp [resetMachine, h]

/-- A drained frame is the framebuffer, and only the flag changes (R1121). -/
theorem hostDrainFrame_eq {s t : State} {fb : Cells 6} (h : hostDrainFrame s = some (fb, t)) :
    fb = s.ppu.fb ∧ t = { s with ppu := { s.ppu with frameComplete := false } } := by
  simp only [hostDrainFrame] at h
  split at h
  · cases h
    exact ⟨rfl, rfl⟩
  · cases h

/-- No act of the host touches what R1124 counts, or the fault record. -/
theorem Run.act_frame (r : Run) (act : HostAct) :
    (r.act act).steps = r.steps ∧ (r.act act).frames = r.frames ∧ (r.act act).state.fault = r.state.fault := by
  cases act <;> simp only [Run.act, hostDrainFrame, hostDrainAudio, resetMachine, hostSetButtons_fault, and_self]
  all_goals split <;> rename_i h <;> split at h <;> cases h
  all_goals exact ⟨rfl, rfl, rfl⟩

/-- The same of a list of acts. -/
theorem Run.acts_frame (acts : List HostAct) : ∀ r : Run,
    (acts.foldl Run.act r).steps = r.steps ∧ (acts.foldl Run.act r).frames = r.frames ∧
      (acts.foldl Run.act r).state.fault = r.state.fault := by
  induction acts with
  | nil => exact fun _ => ⟨rfl, rfl, rfl⟩
  | cons act rest ih =>
    intro r
    have h := r.act_frame act
    have h' := ih (r.act act)
    exact ⟨h'.1.trans h.1, h'.2.1.trans h.2.1, h'.2.2.trans h.2.2⟩

/-- A step of a run whose machine steps (R1100, R1124). -/
theorem Run.step_of_next {r : Run} {t : State} (h : Sys2Proof.Machine.step r.state = .next t) : r.step = { r with
    state := t
    steps := r.steps + bit t.fault.isNone
    frames := r.frames + (t.ppu.frameSettings - r.state.ppu.frameSettings) } := by
  simp only [Run.step, h]

end Sys2Proof.Machine
end

