-- ==== Sys2Proof/Laws/Time.lean ====
section
/-! SUPPORT. What a PPU tick, an APU tick and the catch-up can change: the CPU's registers, RAM, the controller port,
the parameters and the draws are never touched, and the cartridge only by the mapper's scanline clock. -/

namespace Sys2Proof.Machine

/-- A PPU tick changes the PPU and, by the scanline clock, the mapper (R820, R825). -/
theorem ppuTick_frame (s : State) : ppuTick s = { s with
    ppu := (ppuTick s).ppu, cart := { s.cart with mapper := (ppuTick s).cart.mapper } } := by
  simp only [ppuTick, processDot, scanlineClock]
  split
  · split <;> rfl
  · split
    · split <;> rfl
    · split
      · split <;> rfl
      · rfl

/-- The mapper after a PPU tick is the mapper or its scanline clock (R825). -/
theorem ppuTick_mapper (s : State) : (ppuTick s).cart.mapper = s.cart.mapper ∨
    (ppuTick s).cart.mapper = s.cart.mapper.clockIrq s.cfg.mmc3IrqZero := by
  simp only [ppuTick, processDot, scanlineClock]
  split
  · split
    · exact .inr rfl
    · exact .inl rfl
  · split
    · split <;> exact .inl rfl
    · split
      · split
        · exact .inr rfl
        · exact .inl rfl
      · exact .inl rfl

/-- An APU tick changes the APU and emits one sample (R955, R1122). -/
theorem apuTick_frame (s : State) : apuTick s = { s with
    apu := s.apu.tick s.cfg.sweepLowTest
    samples := renderSample s.cfg.sampleNumeric (s.apu.tick s.cfg.sweepLowTest).sample :: s.samples } := rfl

/-- One cycle of catch-up (R1100). -/
theorem cycleTick_frame (s : State) : cycleTick s = { s with
    ppu := (cycleTick s).ppu, apu := s.apu.tick s.cfg.sweepLowTest
    cart := { s.cart with mapper := (cycleTick s).cart.mapper }
    samples := renderSample s.cfg.sampleNumeric (s.apu.tick s.cfg.sweepLowTest).sample :: s.samples } := by
  simp only [cycleTick, apuTick]
  rw [ppuTick_frame (ppuTick (ppuTick s)), ppuTick_frame (ppuTick s), ppuTick_frame s]

/-- The catch-up of k cycles (R1100). -/
theorem catchUp_frame (k : Nat) : ∀ s : State, catchUp k s = { s with
    ppu := (catchUp k s).ppu, apu := (catchUp k s).apu
    cart := { s.cart with mapper := (catchUp k s).cart.mapper }
    samples := (catchUp k s).samples } := by
  induction k with
  | zero => exact fun _ => rfl
  | succ k ih =>
    intro s
    simp only [catchUp]
    rw [ih (cycleTick s), cycleTick_frame s]

@[simp] theorem catchUp_a (k : Nat) (s : State) : (catchUp k s).a = s.a := by rw [catchUp_frame]
@[simp] theorem catchUp_x (k : Nat) (s : State) : (catchUp k s).x = s.x := by rw [catchUp_frame]
@[simp] theorem catchUp_y (k : Nat) (s : State) : (catchUp k s).y = s.y := by rw [catchUp_frame]
@[simp] theorem catchUp_sp (k : Nat) (s : State) : (catchUp k s).sp = s.sp := by rw [catchUp_frame]
@[simp] theorem catchUp_p (k : Nat) (s : State) : (catchUp k s).p = s.p := by rw [catchUp_frame]
@[simp] theorem catchUp_pc (k : Nat) (s : State) : (catchUp k s).pc = s.pc := by rw [catchUp_frame]
@[simp] theorem catchUp_cycles (k : Nat) (s : State) : (catchUp k s).cycles = s.cycles := by rw [catchUp_frame]
@[simp] theorem catchUp_fault (k : Nat) (s : State) : (catchUp k s).fault = s.fault := by rw [catchUp_frame]
@[simp] theorem catchUp_ram (k : Nat) (s : State) : (catchUp k s).ram = s.ram := by rw [catchUp_frame]
@[simp] theorem catchUp_ctl (k : Nat) (s : State) : (catchUp k s).ctl = s.ctl := by rw [catchUp_frame]
@[simp] theorem catchUp_cfg (k : Nat) (s : State) : (catchUp k s).cfg = s.cfg := by rw [catchUp_frame]
@[simp] theorem catchUp_draws (k : Nat) (s : State) : (catchUp k s).draws = s.draws := by rw [catchUp_frame]

/-- One sample per cycle (R1122). -/
theorem catchUp_samples_length (k : Nat) : ∀ s : State, (catchUp k s).samples.length = s.samples.length + k := by
  induction k with
  | zero => exact fun _ => rfl
  | succ k ih =>
    intro s
    simp only [catchUp]
    rw [ih (cycleTick s), cycleTick_frame s]
    simp only [List.length_cons]
    omega

/-- A property that every cycle keeps is kept by the catch-up. -/
theorem catchUp_keeps {Q : State → Prop} (h : ∀ s, Q s → Q (cycleTick s)) (k : Nat) : ∀ s, Q s → Q (catchUp k s) := by
  induction k with
  | zero => exact fun _ hs => hs
  | succ k ih => exact fun s hs => ih _ (h s hs)

/-- A step without a fault recorded is the instruction, then what follows it (R1100). -/
theorem step_of_exec {s t : State} (h : s.fault = none) (he : exec (fetchInstr s).1 (fetchInstr s).2 = .next t) :
    step s = .next (complete s t) := by
  simp only [step, h, he]

/-- The other direction: where a next state comes from. -/
theorem step_next {s t : State} (h : step s = .next t) : s.fault = none ∧
    ∃ u, exec (fetchInstr s).1 (fetchInstr s).2 = .next u ∧ t = complete s u := by
  unfold step at h
  cases hf : s.fault with
  | some f => rw [hf] at h; cases h
  | none =>
    rw [hf] at h
    cases he : exec (fetchInstr s).1 (fetchInstr s).2 with
    | next u =>
      simp only [he] at h
      cases h
      exact ⟨rfl, u, rfl, rfl⟩
    | fault e => simp only [he] at h; cases h
    | refused e => simp only [he] at h; cases h

/-- A byte fetched is a bus read; PC goes one on (R18). -/
theorem fetchByte_frame (s : State) : (fetchByte s).2 = { s with
    pc := s.pc + 1, ctl := (fetchByte s).2.ctl, ppu := (fetchByte s).2.ppu, apu := (fetchByte s).2.apu
    draws := (fetchByte s).2.draws } := by
  simp only [fetchByte]
  rw [busRead_frame s.pc s]

end Sys2Proof.Machine
end

