-- ==== Sys2Proof/Tests/Slice0.lean ====
section
/-! SUPPORT. Tests: well-formedness, the whole opcode map against R325, the vectors of spec/95_test_vectors.md (named in
each comment), and one witness for each statement that has hypotheses.

Expected values are the spec's: R325's map and 95_test_vectors.md. -/

open Sys2Proof Sys2Proof.Machine

set_option Elab.async false

namespace Sys2Proof.Tests

/-! ### Well-formed and ill-formed terms -/

theorem test_wellFormed_bpl : WellFormed (.bpl 128) = false ∧ WellFormed (.bpl (-129)) = false ∧
    WellFormed (.bpl 127) = true ∧ WellFormed (.bpl (-128)) = true := by decide

theorem test_wellFormed_bmi : WellFormed (.bmi 128) = false ∧ WellFormed (.bmi (-129)) = false ∧
    WellFormed (.bmi 127) = true ∧ WellFormed (.bmi (-128)) = true := by decide

theorem test_wellFormed_bvc : WellFormed (.bvc 128) = false ∧ WellFormed (.bvc (-129)) = false ∧
    WellFormed (.bvc 127) = true ∧ WellFormed (.bvc (-128)) = true := by decide

theorem test_wellFormed_bvs : WellFormed (.bvs 128) = false ∧ WellFormed (.bvs (-129)) = false ∧
    WellFormed (.bvs 127) = true ∧ WellFormed (.bvs (-128)) = true := by decide

theorem test_wellFormed_bcc : WellFormed (.bcc 128) = false ∧ WellFormed (.bcc (-129)) = false ∧
    WellFormed (.bcc 127) = true ∧ WellFormed (.bcc (-128)) = true := by decide

theorem test_wellFormed_bcs : WellFormed (.bcs 128) = false ∧ WellFormed (.bcs (-129)) = false ∧
    WellFormed (.bcs 127) = true ∧ WellFormed (.bcs (-128)) = true := by decide

theorem test_wellFormed_bne : WellFormed (.bne 128) = false ∧ WellFormed (.bne (-129)) = false ∧
    WellFormed (.bne 127) = true ∧ WellFormed (.bne (-128)) = true := by decide

theorem test_wellFormed_beq : WellFormed (.beq 128) = false ∧ WellFormed (.beq (-129)) = false ∧
    WellFormed (.beq 127) = true ∧ WellFormed (.beq (-128)) = true := by decide

/-! ### The opcode map (R325, R301, R210), each value with the operand bytes 34 and 12, and its base cycles; a JAM
value returns no count -/

theorem test_decode_0x : ∀ row ∈ ([
      ([0x00, 0x34], .brk 0x34, 7), ([0x01, 0x34], .oraIzx 0x34, 6), ([0x02], .jam02, 0),
      ([0x03, 0x34], .sloIzx 0x34, 8), ([0x04, 0x34], .nopZp04 0x34, 3), ([0x05, 0x34], .oraZp 0x34, 3),
      ([0x06, 0x34], .aslZp 0x34, 5), ([0x07, 0x34], .sloZp 0x34, 5), ([0x08], .php, 3),
      ([0x09, 0x34], .oraImm 0x34, 2), ([0x0A], .aslAcc, 2), ([0x0B, 0x34], .ancImm0B 0x34, 2),
      ([0x0C, 0x34, 0x12], .nopAbs 0x1234, 4), ([0x0D, 0x34, 0x12], .oraAbs 0x1234, 4),
      ([0x0E, 0x34, 0x12], .aslAbs 0x1234, 6), ([0x0F, 0x34, 0x12], .sloAbs 0x1234, 6)] : List (List Byte × Instr × Nat)),
    decode row.1 = .ok (row.2.1, []) ∧ encode row.2.1 = row.1 ∧ row.2.1.cycles = row.2.2 := by
  decide +kernel

theorem test_decode_1x : ∀ row ∈ ([
      ([0x10, 0xFB], .bpl (-5), 2), ([0x11, 0x34], .oraIzy 0x34, 5), ([0x12], .jam12, 0),
      ([0x13, 0x34], .sloIzy 0x34, 8), ([0x14, 0x34], .nopZpx14 0x34, 4), ([0x15, 0x34], .oraZpx 0x34, 4),
      ([0x16, 0x34], .aslZpx 0x34, 6), ([0x17, 0x34], .sloZpx 0x34, 6), ([0x18], .clc, 2),
      ([0x19, 0x34, 0x12], .oraAby 0x1234, 4), ([0x1A], .nop1A, 2), ([0x1B, 0x34, 0x12], .sloAby 0x1234, 7),
      ([0x1C, 0x34, 0x12], .nopAbx1C 0x1234, 4), ([0x1D, 0x34, 0x12], .oraAbx 0x1234, 4),
      ([0x1E, 0x34, 0x12], .aslAbx 0x1234, 7), ([0x1F, 0x34, 0x12], .sloAbx 0x1234, 7)] : List (List Byte × Instr × Nat)),
    decode row.1 = .ok (row.2.1, []) ∧ encode row.2.1 = row.1 ∧ row.2.1.cycles = row.2.2 := by
  decide +kernel

theorem test_decode_2x : ∀ row ∈ ([
      ([0x20, 0x34, 0x12], .jsr 0x1234, 6), ([0x21, 0x34], .andIzx 0x34, 6), ([0x22], .jam22, 0),
      ([0x23, 0x34], .rlaIzx 0x34, 8), ([0x24, 0x34], .bitZp 0x34, 3), ([0x25, 0x34], .andZp 0x34, 3),
      ([0x26, 0x34], .rolZp 0x34, 5), ([0x27, 0x34], .rlaZp 0x34, 5), ([0x28], .plp, 4),
      ([0x29, 0x34], .andImm 0x34, 2), ([0x2A], .rolAcc, 2), ([0x2B, 0x34], .ancImm2B 0x34, 2),
      ([0x2C, 0x34, 0x12], .bitAbs 0x1234, 4), ([0x2D, 0x34, 0x12], .andAbs 0x1234, 4),
      ([0x2E, 0x34, 0x12], .rolAbs 0x1234, 6), ([0x2F, 0x34, 0x12], .rlaAbs 0x1234, 6)] : List (List Byte × Instr × Nat)),
    decode row.1 = .ok (row.2.1, []) ∧ encode row.2.1 = row.1 ∧ row.2.1.cycles = row.2.2 := by
  decide +kernel

theorem test_decode_3x : ∀ row ∈ ([
      ([0x30, 0xFB], .bmi (-5), 2), ([0x31, 0x34], .andIzy 0x34, 5), ([0x32], .jam32, 0),
      ([0x33, 0x34], .rlaIzy 0x34, 8), ([0x34, 0x34], .nopZpx34 0x34, 4), ([0x35, 0x34], .andZpx 0x34, 4),
      ([0x36, 0x34], .rolZpx 0x34, 6), ([0x37, 0x34], .rlaZpx 0x34, 6), ([0x38], .sec, 2),
      ([0x39, 0x34, 0x12], .andAby 0x1234, 4), ([0x3A], .nop3A, 2), ([0x3B, 0x34, 0x12], .rlaAby 0x1234, 7),
      ([0x3C, 0x34, 0x12], .nopAbx3C 0x1234, 4), ([0x3D, 0x34, 0x12], .andAbx 0x1234, 4),
      ([0x3E, 0x34, 0x12], .rolAbx 0x1234, 7), ([0x3F, 0x34, 0x12], .rlaAbx 0x1234, 7)] : List (List Byte × Instr × Nat)),
    decode row.1 = .ok (row.2.1, []) ∧ encode row.2.1 = row.1 ∧ row.2.1.cycles = row.2.2 := by
  decide +kernel

theorem test_decode_4x : ∀ row ∈ ([
      ([0x40], .rti, 6), ([0x41, 0x34], .eorIzx 0x34, 6), ([0x42], .jam42, 0), ([0x43, 0x34], .sreIzx 0x34, 8),
      ([0x44, 0x34], .nopZp44 0x34, 3), ([0x45, 0x34], .eorZp 0x34, 3), ([0x46, 0x34], .lsrZp 0x34, 5),
      ([0x47, 0x34], .sreZp 0x34, 5), ([0x48], .pha, 3), ([0x49, 0x34], .eorImm 0x34, 2), ([0x4A], .lsrAcc, 2),
      ([0x4B, 0x34], .alrImm 0x34, 2), ([0x4C, 0x34, 0x12], .jmpAbs 0x1234, 3),
      ([0x4D, 0x34, 0x12], .eorAbs 0x1234, 4), ([0x4E, 0x34, 0x12], .lsrAbs 0x1234, 6),
      ([0x4F, 0x34, 0x12], .sreAbs 0x1234, 6)] : List (List Byte × Instr × Nat)),
    decode row.1 = .ok (row.2.1, []) ∧ encode row.2.1 = row.1 ∧ row.2.1.cycles = row.2.2 := by
  decide +kernel

theorem test_decode_5x : ∀ row ∈ ([
      ([0x50, 0xFB], .bvc (-5), 2), ([0x51, 0x34], .eorIzy 0x34, 5), ([0x52], .jam52, 0),
      ([0x53, 0x34], .sreIzy 0x34, 8), ([0x54, 0x34], .nopZpx54 0x34, 4), ([0x55, 0x34], .eorZpx 0x34, 4),
      ([0x56, 0x34], .lsrZpx 0x34, 6), ([0x57, 0x34], .sreZpx 0x34, 6), ([0x58], .cli, 2),
      ([0x59, 0x34, 0x12], .eorAby 0x1234, 4), ([0x5A], .nop5A, 2), ([0x5B, 0x34, 0x12], .sreAby 0x1234, 7),
      ([0x5C, 0x34, 0x12], .nopAbx5C 0x1234, 4), ([0x5D, 0x34, 0x12], .eorAbx 0x1234, 4),
      ([0x5E, 0x34, 0x12], .lsrAbx 0x1234, 7), ([0x5F, 0x34, 0x12], .sreAbx 0x1234, 7)] : List (List Byte × Instr × Nat)),
    decode row.1 = .ok (row.2.1, []) ∧ encode row.2.1 = row.1 ∧ row.2.1.cycles = row.2.2 := by
  decide +kernel

theorem test_decode_6x : ∀ row ∈ ([
      ([0x60], .rts, 6), ([0x61, 0x34], .adcIzx 0x34, 6), ([0x62], .jam62, 0), ([0x63, 0x34], .rraIzx 0x34, 8),
      ([0x64, 0x34], .nopZp64 0x34, 3), ([0x65, 0x34], .adcZp 0x34, 3), ([0x66, 0x34], .rorZp 0x34, 5),
      ([0x67, 0x34], .rraZp 0x34, 5), ([0x68], .pla, 4), ([0x69, 0x34], .adcImm 0x34, 2), ([0x6A], .rorAcc, 2),
      ([0x6B, 0x34], .arrImm 0x34, 2), ([0x6C, 0x34, 0x12], .jmpInd 0x1234, 5),
      ([0x6D, 0x34, 0x12], .adcAbs 0x1234, 4), ([0x6E, 0x34, 0x12], .rorAbs 0x1234, 6),
      ([0x6F, 0x34, 0x12], .rraAbs 0x1234, 6)] : List (List Byte × Instr × Nat)),
    decode row.1 = .ok (row.2.1, []) ∧ encode row.2.1 = row.1 ∧ row.2.1.cycles = row.2.2 := by
  decide +kernel

theorem test_decode_7x : ∀ row ∈ ([
      ([0x70, 0xFB], .bvs (-5), 2), ([0x71, 0x34], .adcIzy 0x34, 5), ([0x72], .jam72, 0),
      ([0x73, 0x34], .rraIzy 0x34, 8), ([0x74, 0x34], .nopZpx74 0x34, 4), ([0x75, 0x34], .adcZpx 0x34, 4),
      ([0x76, 0x34], .rorZpx 0x34, 6), ([0x77, 0x34], .rraZpx 0x34, 6), ([0x78], .sei, 2),
      ([0x79, 0x34, 0x12], .adcAby 0x1234, 4), ([0x7A], .nop7A, 2), ([0x7B, 0x34, 0x12], .rraAby 0x1234, 7),
      ([0x7C, 0x34, 0x12], .nopAbx7C 0x1234, 4), ([0x7D, 0x34, 0x12], .adcAbx 0x1234, 4),
      ([0x7E, 0x34, 0x12], .rorAbx 0x1234, 7), ([0x7F, 0x34, 0x12], .rraAbx 0x1234, 7)] : List (List Byte × Instr × Nat)),
    decode row.1 = .ok (row.2.1, []) ∧ encode row.2.1 = row.1 ∧ row.2.1.cycles = row.2.2 := by
  decide +kernel

theorem test_decode_8x : ∀ row ∈ ([
      ([0x80, 0x34], .nopImm80 0x34, 2), ([0x81, 0x34], .staIzx 0x34, 6), ([0x82, 0x34], .nopImm82 0x34, 2),
      ([0x83, 0x34], .saxIzx 0x34, 6), ([0x84, 0x34], .styZp 0x34, 3), ([0x85, 0x34], .staZp 0x34, 3),
      ([0x86, 0x34], .stxZp 0x34, 3), ([0x87, 0x34], .saxZp 0x34, 3), ([0x88], .dey, 2),
      ([0x89, 0x34], .nopImm89 0x34, 2), ([0x8A], .txa, 2), ([0x8B, 0x34], .aneImm 0x34, 2),
      ([0x8C, 0x34, 0x12], .styAbs 0x1234, 4), ([0x8D, 0x34, 0x12], .staAbs 0x1234, 4),
      ([0x8E, 0x34, 0x12], .stxAbs 0x1234, 4), ([0x8F, 0x34, 0x12], .saxAbs 0x1234, 4)] : List (List Byte × Instr × Nat)),
    decode row.1 = .ok (row.2.1, []) ∧ encode row.2.1 = row.1 ∧ row.2.1.cycles = row.2.2 := by
  decide +kernel

theorem test_decode_9x : ∀ row ∈ ([
      ([0x90, 0xFB], .bcc (-5), 2), ([0x91, 0x34], .staIzy 0x34, 6), ([0x92], .jam92, 0),
      ([0x93, 0x34], .shaIzy 0x34, 6), ([0x94, 0x34], .styZpx 0x34, 4), ([0x95, 0x34], .staZpx 0x34, 4),
      ([0x96, 0x34], .stxZpy 0x34, 4), ([0x97, 0x34], .saxZpy 0x34, 4), ([0x98], .tya, 2),
      ([0x99, 0x34, 0x12], .staAby 0x1234, 5), ([0x9A], .txs, 2), ([0x9B, 0x34, 0x12], .tasAby 0x1234, 5),
      ([0x9C, 0x34, 0x12], .shyAbx 0x1234, 5), ([0x9D, 0x34, 0x12], .staAbx 0x1234, 5),
      ([0x9E, 0x34, 0x12], .shxAby 0x1234, 5), ([0x9F, 0x34, 0x12], .shaAby 0x1234, 5)] : List (List Byte × Instr × Nat)),
    decode row.1 = .ok (row.2.1, []) ∧ encode row.2.1 = row.1 ∧ row.2.1.cycles = row.2.2 := by
  decide +kernel

theorem test_decode_Ax : ∀ row ∈ ([
      ([0xA0, 0x34], .ldyImm 0x34, 2), ([0xA1, 0x34], .ldaIzx 0x34, 6), ([0xA2, 0x34], .ldxImm 0x34, 2),
      ([0xA3, 0x34], .laxIzx 0x34, 6), ([0xA4, 0x34], .ldyZp 0x34, 3), ([0xA5, 0x34], .ldaZp 0x34, 3),
      ([0xA6, 0x34], .ldxZp 0x34, 3), ([0xA7, 0x34], .laxZp 0x34, 3), ([0xA8], .tay, 2),
      ([0xA9, 0x34], .ldaImm 0x34, 2), ([0xAA], .tax, 2), ([0xAB, 0x34], .lxaImm 0x34, 2),
      ([0xAC, 0x34, 0x12], .ldyAbs 0x1234, 4), ([0xAD, 0x34, 0x12], .ldaAbs 0x1234, 4),
      ([0xAE, 0x34, 0x12], .ldxAbs 0x1234, 4), ([0xAF, 0x34, 0x12], .laxAbs 0x1234, 4)] : List (List Byte × Instr × Nat)),
    decode row.1 = .ok (row.2.1, []) ∧ encode row.2.1 = row.1 ∧ row.2.1.cycles = row.2.2 := by
  decide +kernel

theorem test_decode_Bx : ∀ row ∈ ([
      ([0xB0, 0xFB], .bcs (-5), 2), ([0xB1, 0x34], .ldaIzy 0x34, 5), ([0xB2], .jamB2, 0),
      ([0xB3, 0x34], .laxIzy 0x34, 5), ([0xB4, 0x34], .ldyZpx 0x34, 4), ([0xB5, 0x34], .ldaZpx 0x34, 4),
      ([0xB6, 0x34], .ldxZpy 0x34, 4), ([0xB7, 0x34], .laxZpy 0x34, 4), ([0xB8], .clv, 2),
      ([0xB9, 0x34, 0x12], .ldaAby 0x1234, 4), ([0xBA], .tsx, 2), ([0xBB, 0x34, 0x12], .lasAby 0x1234, 4),
      ([0xBC, 0x34, 0x12], .ldyAbx 0x1234, 4), ([0xBD, 0x34, 0x12], .ldaAbx 0x1234, 4),
      ([0xBE, 0x34, 0x12], .ldxAby 0x1234, 4), ([0xBF, 0x34, 0x12], .laxAby 0x1234, 4)] : List (List Byte × Instr × Nat)),
    decode row.1 = .ok (row.2.1, []) ∧ encode row.2.1 = row.1 ∧ row.2.1.cycles = row.2.2 := by
  decide +kernel

theorem test_decode_Cx : ∀ row ∈ ([
      ([0xC0, 0x34], .cpyImm 0x34, 2), ([0xC1, 0x34], .cmpIzx 0x34, 6), ([0xC2, 0x34], .nopImmC2 0x34, 2),
      ([0xC3, 0x34], .dcpIzx 0x34, 8), ([0xC4, 0x34], .cpyZp 0x34, 3), ([0xC5, 0x34], .cmpZp 0x34, 3),
      ([0xC6, 0x34], .decZp 0x34, 5), ([0xC7, 0x34], .dcpZp 0x34, 5), ([0xC8], .iny, 2),
      ([0xC9, 0x34], .cmpImm 0x34, 2), ([0xCA], .dex, 2), ([0xCB, 0x34], .sbxImm 0x34, 2),
      ([0xCC, 0x34, 0x12], .cpyAbs 0x1234, 4), ([0xCD, 0x34, 0x12], .cmpAbs 0x1234, 4),
      ([0xCE, 0x34, 0x12], .decAbs 0x1234, 6), ([0xCF, 0x34, 0x12], .dcpAbs 0x1234, 6)] : List (List Byte × Instr × Nat)),
    decode row.1 = .ok (row.2.1, []) ∧ encode row.2.1 = row.1 ∧ row.2.1.cycles = row.2.2 := by
  decide +kernel

theorem test_decode_Dx : ∀ row ∈ ([
      ([0xD0, 0xFB], .bne (-5), 2), ([0xD1, 0x34], .cmpIzy 0x34, 5), ([0xD2], .jamD2, 0),
      ([0xD3, 0x34], .dcpIzy 0x34, 8), ([0xD4, 0x34], .nopZpxD4 0x34, 4), ([0xD5, 0x34], .cmpZpx 0x34, 4),
      ([0xD6, 0x34], .decZpx 0x34, 6), ([0xD7, 0x34], .dcpZpx 0x34, 6), ([0xD8], .cld, 2),
      ([0xD9, 0x34, 0x12], .cmpAby 0x1234, 4), ([0xDA], .nopDA, 2), ([0xDB, 0x34, 0x12], .dcpAby 0x1234, 7),
      ([0xDC, 0x34, 0x12], .nopAbxDC 0x1234, 4), ([0xDD, 0x34, 0x12], .cmpAbx 0x1234, 4),
      ([0xDE, 0x34, 0x12], .decAbx 0x1234, 7), ([0xDF, 0x34, 0x12], .dcpAbx 0x1234, 7)] : List (List Byte × Instr × Nat)),
    decode row.1 = .ok (row.2.1, []) ∧ encode row.2.1 = row.1 ∧ row.2.1.cycles = row.2.2 := by
  decide +kernel

theorem test_decode_Ex : ∀ row ∈ ([
      ([0xE0, 0x34], .cpxImm 0x34, 2), ([0xE1, 0x34], .sbcIzx 0x34, 6), ([0xE2, 0x34], .nopImmE2 0x34, 2),
      ([0xE3, 0x34], .iscIzx 0x34, 8), ([0xE4, 0x34], .cpxZp 0x34, 3), ([0xE5, 0x34], .sbcZp 0x34, 3),
      ([0xE6, 0x34], .incZp 0x34, 5), ([0xE7, 0x34], .iscZp 0x34, 5), ([0xE8], .inx, 2),
      ([0xE9, 0x34], .sbcImm 0x34, 2), ([0xEA], .nop, 2), ([0xEB, 0x34], .sbcImmEB 0x34, 2),
      ([0xEC, 0x34, 0x12], .cpxAbs 0x1234, 4), ([0xED, 0x34, 0x12], .sbcAbs 0x1234, 4),
      ([0xEE, 0x34, 0x12], .incAbs 0x1234, 6), ([0xEF, 0x34, 0x12], .iscAbs 0x1234, 6)] : List (List Byte × Instr × Nat)),
    decode row.1 = .ok (row.2.1, []) ∧ encode row.2.1 = row.1 ∧ row.2.1.cycles = row.2.2 := by
  decide +kernel

theorem test_decode_Fx : ∀ row ∈ ([
      ([0xF0, 0xFB], .beq (-5), 2), ([0xF1, 0x34], .sbcIzy 0x34, 5), ([0xF2], .jamF2, 0),
      ([0xF3, 0x34], .iscIzy 0x34, 8), ([0xF4, 0x34], .nopZpxF4 0x34, 4), ([0xF5, 0x34], .sbcZpx 0x34, 4),
      ([0xF6, 0x34], .incZpx 0x34, 6), ([0xF7, 0x34], .iscZpx 0x34, 6), ([0xF8], .sed, 2),
      ([0xF9, 0x34, 0x12], .sbcAby 0x1234, 4), ([0xFA], .nopFA, 2), ([0xFB, 0x34, 0x12], .iscAby 0x1234, 7),
      ([0xFC, 0x34, 0x12], .nopAbxFC 0x1234, 4), ([0xFD, 0x34, 0x12], .sbcAbx 0x1234, 4),
      ([0xFE, 0x34, 0x12], .incAbx 0x1234, 7), ([0xFF, 0x34, 0x12], .iscAbx 0x1234, 7)] : List (List Byte × Instr × Nat)),
    decode row.1 = .ok (row.2.1, []) ∧ encode row.2.1 = row.1 ∧ row.2.1.cycles = row.2.2 := by
  decide +kernel

/-- The words as the opcode table numbers their bits. -/
theorem test_decodeTableWord : decodeTableWord 16 0x80A9 = some (.ldaImm 0x80) ∧
    decodeTableWord 24 0x30FF6C = some (.jmpInd 0x30FF) ∧ decodeTableWord 8 0x8D = some (.staAbs 0) := by decide +kernel

/-- An instruction cut short is refused by name. -/
theorem test_decode_truncated : decode [] = .error .empty ∧ decode [0xA9] = .error (.truncated 0xA9) ∧
    decode [0x6C, 0xFF] = .error (.truncated 0x6C) := by decide +kernel

/-! ### Single instructions: vectors of sections 1-7 -/

/-- The common start state of sections 2-7, with the code at 0x0300. -/
def start : State := { State.reset with pc := 0x0300 }

/-- The state after the instruction in `bytes`, fetched at PC; on a failure, a state no vector expects. -/
def after (bytes : List Byte) (s : State) : State :=
  match decode bytes with
  | .ok (i, []) =>
    match exec i { s with pc := s.pc + BitVec.ofNat 16 bytes.length } with
    | .next t => t
    | _ => { s with cycles := 9999 }
  | _ => { s with cycles := 9999 }

-- LS-1
theorem test_lda_imm_zero :
    let t := after [0xA9, 0x00] { start with a := 0x55 }
    t.a = 0x00 ∧ t.p = 0x26 ∧ t.cycles = 2 := by decide +kernel

-- LS-3
theorem test_lda_zpx_wraps :
    let t := after [0xB5, 0xFF] { start with x := 0x02, ram := [(0x01, 0x77), (0x101, 0x99)] }
    t.a = 0x77 ∧ t.cycles = 4 := by decide +kernel

-- LS-6
theorem test_lda_izx_pointer_wraps :
    let t := after [0xA1, 0xFE] { start with x := 0x01, ram := [(0x00, 0x02), (0xFF, 0x34), (0x234, 0x5A)] }
    t.a = 0x5A ∧ t.cycles = 6 := by decide +kernel

-- LS-7
theorem test_lda_izy_crosses :
    let t := after [0xB1, 0x10] { start with y := 0xFF, pc := 0x0400, ram := [(0x10, 0x01), (0x11, 0x02), (0x300, 0x01)] }
    t.a = 0x01 ∧ t.cycles = 6 := by decide +kernel

-- LS-4
theorem test_lda_abx_crosses :
    let t := after [0xBD, 0xF0, 0x02] { start with x := 0x20, ram := [(0x310, 0x80)] }
    t.a = 0x80 ∧ t.cycles = 5 := by decide +kernel

-- LS-8
theorem test_ldx_zpy_wraps :
    let t := after [0xB6, 0xF0] { start with y := 0x20, ram := [(0x10, 0x42)] }
    t.x = 0x42 ∧ t.cycles = 4 := by decide +kernel

-- R403, R16
theorem test_ldy_imm :
    let t := after [0xA0, 0x80] { start with y := 0x01 }
    t.y = 0x80 ∧ t.p = 0xA4 := by decide +kernel

-- LS-9
theorem test_sta_abx_no_penalty :
    let t := after [0x9D, 0xF0, 0x02] { start with a := 0x11, x := 0x20 }
    Cells.read t.ram 0x310 = 0x11 ∧ t.p = 0x24 ∧ t.cycles = 5 := by decide +kernel

-- LS-11
theorem test_sta_mirror :
    let t := after [0x8D, 0x01, 0x08] { start with a := 0x5A }
    Cells.read t.ram 0x001 = 0x5A ∧ (busRead 0x1801 t).1 = 0x5A := by decide +kernel

-- R405, R305
theorem test_stx_zpy :
    let t := after [0x96, 0xF0] { start with x := 0x42, y := 0x20 }
    Cells.read t.ram 0x10 = 0x42 ∧ t.p = 0x24 ∧ t.cycles = 4 := by decide +kernel

-- R406
theorem test_sty_zp :
    let t := after [0x84, 0x10] { start with y := 0x42 }
    Cells.read t.ram 0x10 = 0x42 ∧ t.p = 0x24 ∧ t.cycles = 3 := by decide +kernel

-- LS-12
theorem test_txs :
    let t := after [0x9A] { start with sp := 0xFD }
    t.sp = 0x00 ∧ t.p = 0x24 ∧ t.cycles = 2 := by decide +kernel

-- LS-13
theorem test_tsx :
    let t := after [0xBA] { start with x := 0x00 }
    t.x = 0xFD ∧ t.p = 0xA4 := by decide +kernel

-- LS-18
theorem test_tax :
    let t := after [0xAA] { start with a := 0x80 }
    t.x = 0x80 ∧ t.p = 0xA4 := by decide +kernel

-- R408
theorem test_tay :
    let t := after [0xA8] { start with a := 0x80 }
    t.y = 0x80 ∧ t.x = 0x00 ∧ t.p = 0xA4 := by decide +kernel

-- R409
theorem test_txa :
    let t := after [0x8A] { start with x := 0x01 }
    t.a = 0x01 ∧ t.p = 0x24 := by decide +kernel

-- LS-19
theorem test_tya :
    let t := after [0x98] { start with a := 0x44 }
    t.a = 0x00 ∧ t.p = 0x26 := by decide +kernel

-- LS-14
theorem test_pha_wraps :
    let t := after [0x48] { start with a := 0x12, sp := 0x00 }
    Cells.read t.ram 0x100 = 0x12 ∧ t.sp = 0xFF ∧ t.cycles = 3 := by decide +kernel

-- LS-15
theorem test_pla_wraps :
    let t := after [0x68] { start with sp := 0xFF, ram := [(0x100, 0x80)] }
    t.sp = 0x00 ∧ t.a = 0x80 ∧ t.p = 0xA4 ∧ t.cycles = 4 := by decide +kernel

-- LS-16
theorem test_php :
    let t := after [0x08] { start with p := 0xE7 }
    Cells.read t.ram 0x1FD = 0xF7 ∧ t.sp = 0xFC ∧ t.p = 0xE7 := by decide +kernel

-- LS-17
theorem test_plp :
    let t := after [0x28] { start with sp := 0xFC, ram := [(0x1FD, 0xFF)] }
    t.p = 0xEF ∧ t.sp = 0xFD ∧ t.cycles = 4 := by decide +kernel

-- S1
theorem test_adc_overflow :
    let t := after [0x69, 0x50] { start with a := 0x50 }
    t.a = 0xA0 ∧ t.p = 0xE4 ∧ t.cycles = 2 := by decide +kernel

-- AR-7
theorem test_adc_binary :
    let t := after [0x69, 0x09] { start with a := 0x09, p := 0x2C }
    t.a = 0x12 ∧ t.p = 0x2C := by decide +kernel

-- S2
theorem test_sbc_borrow :
    let t := after [0xE9, 0x01] { start with p := 0x25 }
    t.a = 0xFF ∧ t.p = 0xA4 := by decide +kernel

-- AR-4
theorem test_sbc_overflow :
    let t := after [0xE9, 0x01] { start with a := 0x80, p := 0x25 }
    t.a = 0x7F ∧ t.p = 0x65 := by decide +kernel

-- IL-24
theorem test_sbc_EB :
    let t := after [0xEB, 0x01] { start with p := 0x25 }
    t.a = 0xFF ∧ t.p = 0xA4 := by decide +kernel

-- AR-9
theorem test_and :
    let t := after [0x29, 0x0F] { start with a := 0xF0 }
    t.a = 0x00 ∧ t.p = 0x26 := by decide +kernel

-- AR-10
theorem test_ora :
    let t := after [0x09, 0x0F] { start with a := 0xF0 }
    t.a = 0xFF ∧ t.p = 0xA4 := by decide +kernel

-- AR-11
theorem test_eor :
    let t := after [0x49, 0xFF] { start with a := 0xFF }
    t.a = 0x00 ∧ t.p = 0x26 := by decide +kernel

-- AR-12
theorem test_bit :
    let t := after [0x24, 0x10] { start with a := 0x01, ram := [(0x10, 0xC0)] }
    t.a = 0x01 ∧ t.p = 0xE6 ∧ t.cycles = 3 := by decide +kernel

-- AR-15
theorem test_cmp_unsigned :
    let t := after [0xC9, 0x01] { start with a := 0x80 }
    t.a = 0x80 ∧ t.p = 0x25 := by decide +kernel

-- AR-22
theorem test_cmp_keeps_v :
    let t := after [0xC9, 0x01] { start with a := 0x01, p := 0x64 }
    t.p = 0x67 := by decide +kernel

-- AR-16
theorem test_cpx :
    let t := after [0xE0, 0xFF] { start with x := 0x00 }
    t.p = 0x24 := by decide +kernel

-- AR-17
theorem test_cpy :
    let t := after [0xC0, 0x10] { start with y := 0x20 }
    t.p = 0x25 := by decide +kernel

-- AR-18
theorem test_inc_wraps :
    let t := after [0xE6, 0x10] { start with ram := [(0x10, 0xFF)] }
    Cells.read t.ram 0x10 = 0x00 ∧ t.p = 0x26 ∧ t.cycles = 5 := by decide +kernel

-- AR-23
theorem test_inc_data_port :
    let t := after [0xEE, 0x07, 0x20] { start with ppu := { State.reset.ppu with v := 0x2000, readBuffer := 0x07, nt := [(0, 0x10)] } }
    t.ppu.v = 0x2002 ∧ t.ppu.readBuffer = 0x10 ∧ Cells.read t.ppu.nt 1 = 0x08 ∧ t.cycles = 6 := by decide +kernel

-- AR-19
theorem test_dec_wraps :
    let t := after [0xC6, 0x10] { start with x := 0x00 }
    Cells.read t.ram 0x10 = 0xFF ∧ t.p = 0xA4 := by decide +kernel

-- AR-20
theorem test_inx_wraps :
    let t := after [0xE8] { start with x := 0xFF }
    t.x = 0x00 ∧ t.p = 0x26 := by decide +kernel

-- R463
theorem test_iny :
    let t := after [0xC8] { start with y := 0x7F }
    t.y = 0x80 ∧ t.p = 0xA4 := by decide +kernel

-- R464
theorem test_dex :
    let t := after [0xCA] { start with x := 0x01 }
    t.x = 0x00 ∧ t.p = 0x26 := by decide +kernel

-- AR-21
theorem test_dey_wraps :
    let t := after [0x88] { start with y := 0x00 }
    t.y = 0xFF ∧ t.p = 0xA4 := by decide +kernel

-- SR-1
theorem test_asl_acc :
    let t := after [0x0A] { start with a := 0x80 }
    t.a = 0x00 ∧ t.p = 0x27 ∧ t.cycles = 2 := by decide +kernel

-- SR-9
theorem test_asl_zpx_wraps :
    let t := after [0x16, 0xFF] { start with x := 0x01, ram := [(0x00, 0x55)] }
    Cells.read t.ram 0x00 = 0xAA ∧ t.p = 0xA4 ∧ t.cycles = 6 := by decide +kernel

-- SR-4
theorem test_lsr :
    let t := after [0x46, 0x10] { start with ram := [(0x10, 0x01)] }
    Cells.read t.ram 0x10 = 0x00 ∧ t.p = 0x27 ∧ t.cycles = 5 := by decide +kernel

-- SR-5
theorem test_rol :
    let t := after [0x26, 0x10] { start with p := 0x25, ram := [(0x10, 0x80)] }
    Cells.read t.ram 0x10 = 0x01 ∧ t.p = 0x25 := by decide +kernel

-- SR-6
theorem test_ror :
    let t := after [0x6A] { start with p := 0x25 }
    t.a = 0x80 ∧ t.p = 0xA4 := by decide +kernel

-- CF-1
theorem test_bne_back :
    let t := after [0xD0, 0xFB] { start with pc := 0x0305 }
    t.pc = 0x0302 ∧ t.cycles = 3 := by decide +kernel

-- CF-2
theorem test_beq_not_taken :
    let t := after [0xF0, 0x10] { start with a := 0x00 }
    t.pc = 0x0302 ∧ t.cycles = 2 := by decide +kernel

-- CF-7
theorem test_beq_wraps :
    let t := after [0xF0, 0x20] { start with p := 0x26, pc := 0xFFF0 }
    t.pc = 0x0012 ∧ t.cycles = 4 := by decide +kernel

-- CF-3
theorem test_bcc_lowest :
    let t := after [0x90, 0x80] { start with pc := 0x0300 }
    t.pc = 0x0282 ∧ t.cycles = 4 := by decide +kernel

-- R556
theorem test_bcs_not_taken :
    let t := after [0xB0, 0x80] { start with pc := 0x0300 }
    t.pc = 0x0302 ∧ t.cycles = 2 := by decide +kernel

-- CF-4
theorem test_bvc :
    let t := after [0x50, 0x20] { start with pc := 0x02F0 }
    t.pc = 0x0312 ∧ t.cycles = 4 := by decide +kernel

-- CF-6
theorem test_bvs :
    let t := after [0x70, 0xFE] { start with p := 0x64, pc := 0x8000 }
    t.pc = 0x8000 ∧ t.cycles = 3 := by decide +kernel

-- CF-5
theorem test_bpl :
    let t := after [0x10, 0x00] { start with pc := 0x0300 }
    t.pc = 0x0302 ∧ t.cycles = 3 := by decide +kernel

-- R552
theorem test_bmi_not_taken :
    let t := after [0x30, 0x10] { start with pc := 0x0300 }
    t.pc = 0x0302 ∧ t.cycles = 2 := by decide +kernel

-- CF-10
theorem test_jsr_wraps :
    let t := after [0x20, 0x00, 0x05] { start with sp := 0x00 }
    Cells.read t.ram 0x100 = 0x03 ∧ Cells.read t.ram 0x1FF = 0x02 ∧ t.sp = 0xFE ∧ t.pc = 0x0500 ∧ t.cycles = 6 := by decide +kernel

-- CF-9
theorem test_rts :
    let t := after [0x60] { start with sp := 0xFB, ram := [(0x1FC, 0x02), (0x1FD, 0x03)] }
    t.pc = 0x0303 ∧ t.sp = 0xFD ∧ t.cycles = 6 := by decide +kernel

-- CF-11
theorem test_rti :
    let t := after [0x40] { start with sp := 0xFA, ram := [(0x1FB, 0xE3), (0x1FC, 0x34), (0x1FD, 0x02)] }
    t.p = 0xE3 ∧ t.pc = 0x0234 ∧ t.sp = 0xFD ∧ t.cycles = 6 := by decide +kernel

-- CF-12
theorem test_jmp_page_defect :
    let t := after [0x6C, 0xFF, 0x02] { start with pc := 0x0400, ram := [(0x200, 0x05), (0x300, 0x06)] }
    t.pc = 0x0500 ∧ t.cycles = 5 := by decide +kernel

-- CF-13
theorem test_jmp :
    let t := after [0x4C, 0x00, 0xC0] { start with a := 0x00 }
    t.pc = 0xC000 ∧ t.cycles = 3 := by decide +kernel

-- CF-14
theorem test_brk :
    let t := after [0x00, 0xEA] { start with pc := 0x8000, cart := { Cartridge.blank with prg := [(0x3FFF, 0x81)] } }
    Cells.read t.ram 0x1FD = 0x80 ∧ Cells.read t.ram 0x1FC = 0x02 ∧ Cells.read t.ram 0x1FB = 0x34 ∧ t.pc = 0x8100 ∧ t.p = 0x24 ∧ t.cycles = 7 := by decide +kernel

-- CF-15
theorem test_clc :
    let t := after [0x18] { start with p := 0x25 }
    t.p = 0x24 ∧ t.cycles = 2 := by decide +kernel

-- CF-15
theorem test_sec :
    let t := after [0x38] { start with p := 0x24 }
    t.p = 0x25 := by decide +kernel

-- CF-15
theorem test_cli :
    let t := after [0x58] { start with p := 0x24 }
    t.p = 0x20 := by decide +kernel

-- CF-15
theorem test_sei :
    let t := after [0x78] { start with p := 0x20 }
    t.p = 0x24 := by decide +kernel

-- CF-15
theorem test_clv :
    let t := after [0xB8] { start with p := 0x64 }
    t.p = 0x24 := by decide +kernel

-- CF-15
theorem test_cld :
    let t := after [0xD8] { start with p := 0x2C }
    t.p = 0x24 := by decide +kernel

-- CF-15
theorem test_sed :
    let t := after [0xF8] { start with p := 0x24 }
    t.p = 0x2C := by decide +kernel

-- IL-37
theorem test_nop_acts_on_port :
    let t := after [0x0C, 0x02, 0x20] { start with ppu := { State.reset.ppu with vbl := true, w := true } }
    t.ppu.vbl = false ∧ t.ppu.w = false ∧ t.pc = 0x0303 ∧ t.cycles = 4 := by decide +kernel

-- IL-34
theorem test_nop_crosses :
    let t := after [0x1C, 0xFF, 0x02] { start with x := 0x01 }
    t.pc = 0x0303 ∧ t.cycles = 5 := by decide +kernel

-- IL-1
theorem test_slo :
    let t := after [0x07, 0x20] { start with a := 0x10, ram := [(0x20, 0x81)] }
    Cells.read t.ram 0x20 = 0x02 ∧ t.a = 0x12 ∧ t.p = 0x25 ∧ t.cycles = 5 := by decide +kernel

-- IL-3
theorem test_rla :
    let t := after [0x27, 0x20] { start with a := 0xFF, p := 0x25, ram := [(0x20, 0x80)] }
    Cells.read t.ram 0x20 = 0x01 ∧ t.a = 0x01 ∧ t.p = 0x25 := by decide +kernel

-- IL-5
theorem test_sre :
    let t := after [0x4F, 0x10, 0x00] { start with a := 0xFF, ram := [(0x10, 0xFF)] }
    Cells.read t.ram 0x10 = 0x7F ∧ t.a = 0x80 ∧ t.p = 0xA5 ∧ t.cycles = 6 := by decide +kernel

-- IL-6
theorem test_rra :
    let t := after [0x67, 0x20] { start with a := 0x01, p := 0x25, ram := [(0x20, 0x02)] }
    Cells.read t.ram 0x20 = 0x81 ∧ t.a = 0x82 ∧ t.p = 0xA4 := by decide +kernel

-- IL-9
theorem test_sax :
    let t := after [0x97, 0xFF] { start with a := 0xFF, x := 0x0F, y := 0x02 }
    Cells.read t.ram 0x01 = 0x0F ∧ t.p = 0x24 ∧ t.cycles = 4 := by decide +kernel

-- IL-11
theorem test_lax_crosses :
    let t := after [0xB3, 0x10] { start with y := 0x01, pc := 0x0400, ram := [(0x10, 0xFF), (0x11, 0x02)] }
    t.a = 0x00 ∧ t.x = 0x00 ∧ t.p = 0x26 ∧ t.cycles = 6 := by decide +kernel

-- IL-13
theorem test_dcp_no_penalty :
    let t := after [0xDF, 0xF0, 0x02] { start with a := 0xFF, x := 0x20 }
    Cells.read t.ram 0x310 = 0xFF ∧ t.p = 0x27 ∧ t.cycles = 7 := by decide +kernel

-- IL-15
theorem test_isc :
    let t := after [0xF3, 0x10] { start with p := 0x25, y := 0x01, pc := 0x0400, ram := [(0x11, 0x02), (0x201, 0x7F)] }
    Cells.read t.ram 0x201 = 0x80 ∧ t.a = 0x80 ∧ t.p = 0xE4 ∧ t.cycles = 8 := by decide +kernel

-- IL-16
theorem test_anc :
    let t := after [0x0B, 0xFF] { start with a := 0x80 }
    t.a = 0x80 ∧ t.p = 0xA5 := by decide +kernel

-- IL-18
theorem test_alr :
    let t := after [0x4B, 0xFF] { start with a := 0x03 }
    t.a = 0x01 ∧ t.p = 0x25 := by decide +kernel

-- IL-19
theorem test_arr :
    let t := after [0x6B, 0xFF] { start with a := 0x80 }
    t.a = 0x40 ∧ t.p = 0x65 := by decide +kernel

-- IL-20
theorem test_arr_carry_in :
    let t := after [0x6B, 0xFF] { start with a := 0x3E, p := 0x25 }
    t.a = 0x9F ∧ t.p = 0xA4 := by decide +kernel

-- IL-22
theorem test_sbx :
    let t := after [0xCB, 0x04] { start with a := 0x0F, x := 0xFC }
    t.x = 0x08 ∧ t.p = 0x25 ∧ t.a = 0x0F := by decide +kernel

-- IL-26
theorem test_ane_free :
    let t := after [0x8B, 0x00] { start with a := 0x55, x := 0xFF }
    t.a = 0x00 ∧ t.p = 0x26 := by decide +kernel

-- IL-28
theorem test_lxa_free :
    let t := after [0xAB, 0x5A] { start with a := 0xFF }
    t.a = 0x5A ∧ t.x = 0x5A := by decide +kernel

-- IL-29
theorem test_las :
    let t := after [0xBB, 0x00, 0x03] { start with pc := 0x0400, ram := [(0x300, 0xF3)] }
    t.a = 0xF1 ∧ t.x = 0xF1 ∧ t.sp = 0xF1 ∧ t.p = 0xA4 ∧ t.cycles = 4 := by decide +kernel

-- IL-30
theorem test_sha :
    let t := after [0x9F, 0x00, 0x12] { start with a := 0xFF, x := 0x0F, y := 0x10 }
    Cells.read t.ram 0x210 = 0x03 ∧ t.cycles = 5 := by decide +kernel

-- IL-31
theorem test_shx_crosses :
    let t := after [0x9E, 0xF0, 0x02] { start with x := 0x0F, y := 0x20 }
    Cells.read t.ram 0x310 = 0x03 := by decide +kernel

-- R619
theorem test_shy :
    let t := after [0x9C, 0x00, 0x05] { start with y := 0xFF, x := 0x01 }
    Cells.read t.ram 0x501 = 0x06 ∧ t.cycles = 5 := by decide +kernel

-- IL-33
theorem test_tas :
    let t := after [0x9B, 0x00, 0x06] { start with a := 0xF0, x := 0x3F }
    t.sp = 0x30 ∧ Cells.read t.ram 0x600 = 0x00 := by decide +kernel

-- IL-38
theorem test_jam :
    let t := after [0x02] { start with pc := 0x8000 }
    t.fault = some { opcode := 0x02, pc := 0x8000 } ∧ t.pc = 0x8000 ∧ t.cycles = 0 := by decide +kernel

/-! ### Buses, PPU, APU, cartridge: vectors of sections 8-11 -/

-- MEM-1, MEM-4, MEM-6
theorem test_bus_memory : (busRead 0x1801 (busWrite 0x0801 0x5A start)).1 = 0x5A ∧ (busRead 0x4017 start).1 = 0x40 ∧
    (busRead 0x6000 (busWrite 0x6000 0x77 start)).1 = 0x77 := by decide +kernel

-- MEM-5: one draw each
theorem test_open_bus : (busRead 0x4000 start).2.draws = 1 ∧ (busRead 0x4014 start).2.draws = 1 ∧
    (busRead 0x4018 start).2.draws = 1 ∧ (busRead 0x5000 start).2.draws = 1 := by decide +kernel

-- MEM-7, MEM-8, R1010
theorem test_nrom_windows :
    ({ Cartridge.blank with prg := [(0x0123, 0x11), (0x3FFC, 0x22)] }).read 0xC123 = 0x11 ∧
    ({ Cartridge.blank with prg := [(0x0123, 0x11), (0x3FFC, 0x22)] }).read 0xFFFC = 0x22 ∧
    ({ Cartridge.blank with prgBanks := 2, prg := [(0x4123, 0x33)] }).read 0xC123 = 0x33 := by decide +kernel

-- DMA-1, DMA-2: the stall
theorem test_dma_stall : writeCycles 4 0x4014 2 = 517 ∧ writeCycles 4 0x4014 5 = 518 ∧ writeCycles 4 0x4015 5 = 4 := by
  decide +kernel

-- DMA-4, the first two transfers
theorem test_dma_from :
    let t := oamDmaFrom 0x02 2 0 { start with
      ram := [(0x200, 7), (0x201, 1)], ppu := { State.reset.ppu with oamAddr := 0x10 } }
    t.ppu.oam = [(0x10, 7), (0x11, 1)] ∧ t.ppu.oamAddr = 0x12 ∧ t.ppu.latch = 1 := by decide +kernel

/-- The state after `n` reads of 0x4016. -/
def padReads : Nat → State → State
  | 0, s => s
  | n + 1, s => padReads n (busRead 0x4016 s).2

-- JOY-1, JOY-2
theorem test_controller :
    let s := busWrite 0x4016 1 (hostSetButtons 0x09 start)
    let t := busWrite 0x4016 0 s
    (busRead 0x4016 s).1 = 0x41 ∧ (busRead 0x4016 (padReads 1 s)).1 = 0x41 ∧
    (List.range 10).map (fun k => (busRead 0x4016 (padReads k t)).1) =
      [0x41, 0x40, 0x40, 0x41, 0x40, 0x40, 0x40, 0x40, 0x41, 0x41] := by decide +kernel

-- PPU-2, PPU-4
theorem test_ppu_scroll_addr :
    let p := (portWrite 5 0x5E (portWrite 5 0x7D start)).ppu
    let q := (portWrite 6 0x00 (portWrite 6 0x7F start)).ppu
    p.x = 5 ∧ p.t = 0x616F ∧ p.w = false ∧ q.t = 0x3F00 ∧ q.v = 0x3F00 := by decide +kernel

-- PPU-5
theorem test_ppu_status :
    let s := { start with ppu := { State.reset.ppu with vbl := true, latch := 0x1F, w := true } }
    (portRead 2 s).1 = 0x9F ∧ (portRead 2 s).2.ppu.vbl = false ∧ (portRead 2 s).2.ppu.w = false ∧
    (portRead 2 s).2.ppu.latch = 0x9F := by decide +kernel

-- PPU-7, PPU-9
theorem test_ppu_data :
    let s := { start with ppu := { State.reset.ppu with v := 0x2000, nt := [(0, 0x55)] } }
    let q := { start with ppu := { State.reset.ppu with v := 0x3F05, pal := [(5, 0x16)], nt := [(0x705, 0x44)] } }
    (portRead 7 s).1 = 0x00 ∧ (portRead 7 (portRead 7 s).2).1 = 0x55 ∧ (portRead 7 (portRead 7 s).2).2.ppu.v = 0x2002 ∧
    (portRead 7 q).1 = 0x16 ∧ (portRead 7 q).2.ppu.readBuffer = 0x44 ∧ (portRead 7 q).2.ppu.v = 0x3F06 := by decide +kernel

-- PPU-10, PPU-11
theorem test_ppu_oam :
    let s := portWrite 4 0x12 { start with ppu := { State.reset.ppu with oamAddr := 0xFF } }
    let r := portRead 4 { start with ppu := { State.reset.ppu with oamAddr := 4, oam := [(4, 0x99)] } }
    s.ppu.oam = [(0xFF, 0x12)] ∧ s.ppu.oamAddr = 0 ∧ r.1 = 0x99 ∧ r.2.ppu.oamAddr = 5 := by decide +kernel

-- PPU-13, PPU-14, PPU-15, PPU-16
theorem test_ppu_indices : [0x3F10, 0x3F14, 0x3F04, 0x3F20, 0x3F3C, 0x3FFF].map palIndex = [0, 4, 4, 0, 0x0C, 0x1F] ∧
    [0x2000, 0x2400, 0x2800, 0x2C05, 0x3EFF].map (ntIndex .vertical) = [0, 0x400, 0, 0x405, 0x6FF] ∧
    [0x2000, 0x2400, 0x2800, 0x2C05, 0x3EFF].map (ntIndex .horizontal) = [0, 0, 0x400, 0x405, 0x6FF] ∧
    ntIndex .singleLower 0x2C05 = 0x005 ∧ ntIndex .singleUpper 0x2C05 = 0x405 := by decide +kernel

-- PPU-17, PPU-18, PPU-19
theorem test_ppu_scroll_functions : incCoarseX 0x001F = 0x0400 ∧ incCoarseX 0x041F = 0x0000 ∧ incCoarseX 0x0005 = 0x0006 ∧
    incY 0x0000 = 0x1000 ∧ incY 0x73A0 = 0x0800 ∧ incY 0x73E0 = 0x0000 ∧ incY 0x7020 = 0x0040 ∧
    copyH 0x7FFF 0x0000 = 0x7BE0 ∧ copyV 0x7FFF 0x0000 = 0x041F := by decide +kernel

-- PPU-20, PPU-21, PPU-23
theorem test_ppu_pixel : attrAddr 0x0042 = 0x23C0 ∧ attrShift 0x0042 = 6 ∧
    bgSource { State.reset.ppu with x := 5 } 4 = (0x0001, 1) ∧ patternPixel 0x80 0x80 7 = 3 ∧
    (ppuTick { start with ppu := { State.reset.ppu with dot := 1, pal := [(0, 0x0F)] } }).ppu.fb = [(0, 0x0F)] := by
  decide +kernel

-- T1, T2: the two events themselves
theorem test_ppu_vblank :
    (ppuTick { start with ppu := { State.reset.ppu with scanline := 241, dot := 1, ctrl := 0x80 } }).ppu.nmiRequest = true ∧
    (ppuTick { start with ppu := { State.reset.ppu with scanline := 241, dot := 1 } }).ppu.vbl = true ∧
    (ppuTick { start with ppu := { State.reset.ppu with scanline := 261, dot := 1, vbl := true } }).ppu.vbl = false := by
  decide +kernel

-- T4
theorem test_first_step :
    (match step { start with ram := [(0x300, 0x78)] } with
    | .next t => (t.cycles, t.ppu.scanline, t.ppu.dot, t.apu.cycle, t.samples.length)
    | _ => (0, 0, 0, 0, 0)) = (2, 0, 6, 2, 2) := by decide +kernel

-- APU-1, APU-2, APU-4
theorem test_apu_length : (busWrite 0x4003 0x08 (busWrite 0x4015 1 start)).apu.pulse1.length = 254 ∧
    (busWrite 0x4003 0x08 start).apu.pulse1.length = 0 ∧
    (busRead 0x4015 { start with apu := { Apu.reset with
      frameIrq := true, pulse1 := { Pulse.reset with length := 10 } } }).1 = 0x41 := by decide +kernel

-- APU-7, APU-12
theorem test_apu_frame_write_and_sweep :
    (busWrite 0x4017 0x40 { start with apu := { Apu.reset with frameIrq := true, fsCount := 9 } }).apu.frameIrq = false ∧
    (busWrite 0x4017 0x40 start).apu.irqInhibit = true ∧
    ({ Pulse.reset with period := 0x100, sweepShift := 1, sweepNeg := true, sweepEn := true }.sweepClock .target 1).period =
      0x7F ∧
    ({ Pulse.reset with period := 0x100, sweepShift := 1, sweepNeg := true, sweepEn := true }.sweepClock .target 2).period =
      0x80 := by decide +kernel

-- APU-5: the IRQ is set by the tick that counts 29829, and 29830 is 0 again
theorem test_apu_frame_irq : (Apu.tick .target { Apu.reset with fsCount := 29828 }).frameIrq = true ∧
    (Apu.tick .target { Apu.reset with fsCount := 29827 }).frameIrq = false ∧
    (Apu.tick .target { Apu.reset with fsCount := 29829 }).fsCount = 0 := by decide +kernel

-- APU-16, APU-17, APU-18
theorem test_apu_noise : Noise.reset.timerClock.lfsr = 0x4000 ∧ Noise.reset.timerClock.timer = 3 ∧
    ({ Noise.reset with lfsr := 0x4000 } : Noise).timerClock.lfsr = 0x2000 ∧
    ({ Noise.reset with mode := true } : Noise).timerClock.lfsr = 0x4000 := by decide +kernel

-- APU-21, as bounds of the spec's six decimals
theorem test_apu_mix : mix 0 0 0 0 = 0 ∧ 631811 / 1000000 < mix 15 15 15 15 ∧ mix 15 15 15 15 < 631813 / 1000000 ∧
    246411 / 1000000 < mix 0 0 15 0 ∧ mix 0 0 15 0 < 246413 / 1000000 := by decide +kernel

/-- A 16-byte header: PRG banks, CHR banks, bytes 6, 7 and 12. -/
def header (prg chr b6 b7 b12 : Byte) : List Byte :=
  [0x4E, 0x45, 0x53, 0x1A, prg, chr, b6, b7, 0, 0, 0, 0, b12, 0, 0, 0]

/-- No memory has contents at power-on. -/
def emptyInit : InitMem where
  ram := []
  nt := []
  pal := []
  oam := []
  chrRam := []
  prgRam := []
  fb := []

/-- Whether a load ends in the given error. -/
def failsWith (e : LoadError) (img : List Byte) : Bool :=
  match powerOn img emptyInit Config.default with
  | .error e' => e == e'
  | .ok _ => false

-- LD-1, LD-2, LD-3, LD-4
theorem test_load_errors : failsWith .badHeader ((header 1 1 0 0 0).take 15) = true ∧
    failsWith .badHeader [0x4E, 0x45, 0x53, 0, 1, 1, 0, 0, 0, 0, 0, 0, 0, 0, 0, 0] = true ∧
    failsWith .badHeader (header 0 1 0 0 0) = true ∧ failsWith .truncated (header 2 1 1 0 0) = true := by decide +kernel

-- LD-6, LD-7
theorem test_load_mapper : headerMapper (header 2 1 0x20 0x40 0) = 66 ∧ headerMapper (header 2 1 0x41 0x40 0x44) = 4 := by
  decide +kernel

/-- MMC1 at construction. -/
def mmc1 : Mmc1 := { shift := 0, count := 0, control := 0x0C, chr0 := 0, chr1 := 0, prgBank := 0 }

-- MM1-1, MM1-2
theorem test_mmc1 : ({ mmc1 with count := 2, control := 1 }.write 0x8000 0x80) = { mmc1 with control := 0x0D } ∧
    (((((mmc1.write 0x8000 0).write 0x8000 1).write 0x8000 1).write 0x8000 1).write 0x8000 0).control = 0x0E := by
  decide +kernel

-- MM1-4, MM1-5, MM1-6
theorem test_mmc1_prg : ({ mmc1 with prgBank := 2 }).prgOffset 8 0x8000 = 0x8000 ∧
    ({ mmc1 with prgBank := 2 }).prgOffset 8 0xC000 = 0x1C000 ∧
    ({ mmc1 with control := 0x08, prgBank := 3 }).prgOffset 8 0x8000 = 0 ∧
    ({ mmc1 with control := 0x08, prgBank := 3 }).prgOffset 8 0xC000 = 0xC000 ∧
    ({ mmc1 with control := 0x00, prgBank := 3 }).prgOffset 8 0x8000 = 0x8000 ∧
    ({ mmc1 with control := 0x00, prgBank := 3 }).prgOffset 8 0xC000 = 0xC000 := by decide +kernel

/-- MMC3 at construction, with vertical header mirroring. -/
def mmc3 : Mmc3 where
  bankSelect := 0
  r0 := 0
  r1 := 0
  r2 := 0
  r3 := 0
  r4 := 0
  r5 := 0
  r6 := 0
  r7 := 0
  mirror := false
  irqLatch := 0
  irqCounter := 0
  irqReload := false
  irqEnable := false
  irqPending := false

-- MM3-1, MM3-2, MM3-3, MM3-4
theorem test_mmc3_banks :
    [0x8000, 0xA000, 0xC000, 0xE000].map ({ mmc3 with r6 := 3, r7 := 4 }.prgOffset 8) = [0x6000, 0x8000, 0x1C000, 0x1E000] ∧
    [0x8000, 0xC000].map ({ mmc3 with bankSelect := 0x40, r6 := 3, r7 := 4 }.prgOffset 8) = [0x1C000, 0x6000] ∧
    [0x0000, 0x0400].map ({ mmc3 with r0 := 5 }.chrOffset) = [4 * 1024, 5 * 1024] ∧
    ({ mmc3 with bankSelect := 0x80, r2 := 5 }).chrOffset 0 = 5 * 1024 := by decide +kernel

/-- MMC3 after n scanline clocks from latch N, a reload write and an enable. -/
def clocks (z : Mmc3IrqZero) (latch : Byte) : Nat → Mmc3
  | 0 => ((mmc3.write 0xC000 latch).write 0xC001 0).write 0xE001 0
  | n + 1 => (clocks z latch n).clockIrq z

-- MM3-5, MM3-7
theorem test_mmc3_irq :
    [1, 2, 3, 4, 5, 6].map (fun n => (clocks .onZero 3 n).irqCounter) = [3, 2, 1, 0, 3, 2] ∧
    [1, 2, 3, 4, 5, 6].map (fun n => (clocks .onZero 3 n).irqPending) = [false, false, false, true, true, true] ∧
    (clocks .onZero 0 1).irqPending = true ∧ (clocks .onTransition 0 3).irqPending = false := by decide +kernel

-- GX-1, GX-2
theorem test_gxrom :
    let c := { Cartridge.blank with prgBanks := 8, chrBanks := 4, mapper := .gxrom { prgBank := 0, chrBank := 0 } }
    (c.write 0x8000 0x21).prgOffset 0x8000 = 0x10000 ∧ (c.write 0x8000 0x21).chrOffset 0 = 0x2000 ∧
    (c.write 0x8000 0x33).prgOffset 0xFFFF = 0x1FFFF ∧ (c.write 0x8000 0x33).chrOffset 0x1FFF = 0x7FFF := by decide +kernel

/-! ### Interrupts and reset: vectors of section 12 -/

-- INT-1, before the catch-up of the poll
theorem test_nmi_entry :
    let t := enter nmiVector { start with
      pc := 0x8005, p := 0xE3, cart := { Cartridge.blank with prg := [(0x3FFA, 0x20), (0x3FFB, 0x80)] } }
    Cells.read t.ram 0x1FD = 0x80 ∧ Cells.read t.ram 0x1FC = 0x05 ∧ Cells.read t.ram 0x1FB = 0xE3 ∧ t.p = 0xE7 ∧
    t.sp = 0xFA ∧ t.pc = 0x8020 ∧ t.cycles = 7 := by decide +kernel

-- INT-4: the IRQ is entered at the poll after CLI
theorem test_irq_after_cli :
    (match step { start with ram := [(0x300, 0x58)], apu := { Apu.reset with frameIrq := true } } with
    | .next t => (t.cycles, t.sp)
    | _ => (0, 0)) = (9, 0xFA) := by decide +kernel

-- RST-1, RST-2, INT-7
theorem test_reset :
    ((resetMachine { start with
      a := 1, cycles := 99, cart := { Cartridge.blank with prg := [(0x3FFD, 0x80)] } }).map fun t => (t.a, t.cycles, t.pc)) =
      some (0, 0, 0x8000) ∧
    resetMachine { start with fault := some { opcode := 0x02, pc := 0 } } = none := by decide +kernel

/-- The reset vector of the blank cartridge is where `State.reset` starts, and `Reset()` of it changes nothing. -/
theorem test_reset_of_reset : resetMachine State.reset = some State.reset := by decide +kernel

/-! ### The host and a run (R1120-R1124) -/

/-- `start` with the bytes at 0x0300. -/
def running (bytes : List Byte) : State := placeBytes 0x0300 bytes start

-- R1124 (b): two NOPs end a run of two steps, and the third entry of the plan is not used
theorem test_run_steps :
    (let e := runFrom (.steps 2) [[.setButtons 0x09], [], [.setButtons 0xFF]] (Run.start (running [0xEA, 0xEA, 0xEA]))
     (e.steps, e.state.pc, e.state.ctl.buttons, e.emitted.length, e.ending (.steps 2))) =
      (2, 0x0302, 0x09, 4, some .reached) := by decide +kernel

-- R1124 (c), R861, R1121: the frame completes in the step that processes dot (241, 1), and the host drains it after that
theorem test_run_frames :
    (let s := running [0xEA, 0xEA]
     let r := Run.start { s with ppu := { s.ppu with scanline := 241, dot := 0 } }
     let e := runFrom (.frames 1) [[.drainFrame], [.drainFrame]] r
     (e.steps, e.frames, e.drained.length, (e.act .drainFrame).drained.length,
       (e.act .drainFrame).state.ppu.frameComplete, e.ending (.frames 1))) =
      (1, 1, 0, 1, false, some .reached) := by decide +kernel

-- R1124 (a), R700: the fault ends a run as a failure, and no act of the host changes the machine
theorem test_run_fault :
    (let e := runFrom (.steps 5) [[], [], []] (Run.start (running [0xEA, 0x02]))
     (e.steps, e.ending (.steps 5), e.act (.setButtons 1) == e, e.act .drainAudio == e, e.act .reset == e)) =
      (1, some (.failure { opcode := 0x02, pc := 0x0301 }), true, true, true) := by decide +kernel

/-! ### Witnesses: states and operands that meet the hypotheses of each statement -/

/-- The outcome is a next state. -/
def goesOn (r : StepResult) : Bool :=
  match r with
  | .next _ => true
  | _ => false

-- DecodeEncode and EncodeDecode
theorem test_witness_decode : WellFormed (.bpl (-128)) = true ∧ WellFormed (.bpl 127) = true ∧
    WellFormed (.jmpInd 0xFFFF) = true ∧ decode [0x10, 0x80, 0x00] = .ok (.bpl (-128), [0x00]) := by decide +kernel

-- StepRunsDecoded: an instruction of each length
theorem test_witness_step :
    let f (ram : Memory) : List Byte :=
      let f0 := fetchByte { start with ram := ram }
      let f1 := fetchByte f0.2
      [f0.1, f1.1, (fetchByte f1.2).1]
    start.fault = none ∧ decode (f [(0x300, 0xEA)]) = .ok (.nop, [0, 0]) ∧
    decode (f [(0x300, 0xA9), (0x301, 7)]) = .ok (.ldaImm 7, [0]) ∧
    decode (f [(0x300, 0x4C), (0x301, 7), (0x302, 8)]) = .ok (.jmpAbs 0x0807, []) := by decide +kernel

-- Loads, AddSubtract, LogicAndBit, Compares, CombinedLoadStore, ImmediateCombinations, UnstableLoads, NoOperations
theorem test_witness_reads : ∀ row ∈ ([(.ldaImm 0, .lda), (.ldxImm 0, .ldx), (.ldyImm 0, .ldy), (.adcIzy 0, .adc),
      (.sbcAbx 0, .sbc), (.andImm 0, .and), (.oraImm 0, .ora), (.eorImm 0, .eor), (.bitZp 0, .bit), (.cmpImm 0, .cmp),
      (.cpxImm 0, .cpx), (.cpyImm 0, .cpy), (.laxZp 0, .lax), (.ancImm0B 0, .anc), (.alrImm 0, .alr), (.arrImm 0, .arr),
      (.sbxImm 0, .sbx), (.aneImm 0, .ane), (.lxaImm 0, .lxa), (.lasAby 0, .las), (.nop, .nop), (.nopAbs 0, .nop)] :
      List (Instr × Mnemonic)), row.1.mnemonic = row.2 ∧ goesOn (exec row.1 start) = true := by decide +kernel

-- Stores, IncrementMemory, Shifts, ShiftAndLogic, ModifyAndArithmetic, CombinedLoadStore, HighByteStores
theorem test_witness_writes : ∀ row ∈ ([(.staZp 0, .sta), (.stxZp 0, .stx), (.styZp 0, .sty), (.saxZp 0, .sax),
      (.incZp 0, .inc), (.decZp 0, .dec), (.aslZp 0, .asl), (.lsrZp 0, .lsr), (.rolZp 0, .rol), (.rorZp 0, .ror),
      (.sloZp 0, .slo), (.rlaZp 0, .rla), (.sreZp 0, .sre), (.rraZp 0, .rra), (.dcpZp 0, .dcp), (.iscZp 0, .isc)] :
      List (Instr × Mnemonic)), row.1.mnemonic = row.2 ∧ row.1.form = .operand (.mem (.zp 0)) ∧
        goesOn (exec row.1 start) = true := by decide +kernel

-- HighByteStores: on a page and across one
theorem test_witness_high_stores : (Instr.shaIzy 0).mnemonic = .sha ∧ (Instr.shxAby 0).mnemonic = .shx ∧
    (Instr.shyAbx 0).mnemonic = .shy ∧ (Instr.tasAby 0).mnemonic = .tas ∧
    (effAddr (.aby 0x02FF) { start with y := 1 }).crossed = true ∧ (effAddr (.aby 0x02FF) start).crossed = false ∧
    start.cfg.shPageCross = .replaceHigh := by decide +kernel

-- Transfers, IncrementRegisters, FlagInstructions, Shifts in accumulator mode
theorem test_witness_implied : ∀ row ∈ ([(.tax, .tax), (.tay, .tay), (.txa, .txa), (.tya, .tya), (.tsx, .tsx), (.txs, .txs),
      (.inx, .inx), (.iny, .iny), (.dex, .dex), (.dey, .dey), (.clc, .clc), (.sec, .sec), (.cli, .cli), (.sei, .sei),
      (.clv, .clv), (.cld, .cld), (.sed, .sed)] : List (Instr × Mnemonic)),
    row.1.mnemonic = row.2 ∧ row.1.form = .implied ∧ goesOn (exec row.1 start) = true := by decide +kernel

theorem test_witness_accumulator : ∀ row ∈ ([(.aslAcc, .asl), (.lsrAcc, .lsr), (.rolAcc, .rol), (.rorAcc, .ror)] :
      List (Instr × Mnemonic)), row.1.mnemonic = row.2 ∧ row.1.form = .accumulator ∧
        goesOn (exec row.1 start) = true := by decide +kernel

-- Branches, taken and not; StackInstructions, CallAndReturn, BreakAndReturn, JamFaults
theorem test_witness_control : ∀ row ∈ ([(.bpl 127, .bpl), (.bmi (-128), .bmi), (.bvc 0, .bvc), (.bvs 0, .bvs), (.bcc 0, .bcc),
      (.bcs 0, .bcs), (.bne 0, .bne), (.beq 0, .beq), (.pha, .pha), (.php, .php), (.pla, .pla), (.plp, .plp), (.jsr 0, .jsr),
      (.rts, .rts), (.brk 0, .brk), (.rti, .rti), (.jam02, .jam), (.jamF2, .jam)] : List (Instr × Mnemonic)),
    row.1.mnemonic = row.2 ∧ goesOn (exec row.1 start) = true := by decide +kernel

-- Jumps: both forms, the pointer's page wrap included
theorem test_witness_jumps : (Instr.jmpAbs 5).mnemonic = .jmp ∧ (Instr.jmpAbs 5).form = .operand (.mem (.abs 5)) ∧
    (Instr.jmpInd 0x30FF).mnemonic = .jmp ∧ (Instr.jmpInd 0x30FF).form = .indirect 0x30FF ∧
    (0x3000#16).toNat = (0x30FF#16).toNat / 256 * 256 + ((0x30FF#16).toNat + 1) % 256 := by decide +kernel

-- MemoryFrame: a store beside the address read, at the edges of the plain windows, and an instruction without a store
theorem test_witness_frame : goesOn (exec (.staAbs 0x0000) start) = true ∧
    storedAddresses (.staAbs 0x0000) start = [0x0000] ∧ touches 0x0000 0x1FFF = false ∧ isStorable 0x1FFF = true ∧
    touches 0x0000 0x6000 = false ∧ isStorable 0x6000 = true ∧ touches 0x0000 0xFFFF = false ∧
    storedAddresses (.ldaImm 0) start = [] ∧ storedAddresses (.brk 0) start = [0x1FD, 0x1FC, 0x1FB] := by decide +kernel

-- FlagWriters, RegisterWriters: NOP is in no list, and the start state's status is well formed
theorem test_witness_writers : goesOn (exec .nop start) = true ∧ Instr.nop.mnemonic = .nop ∧ start.statusOk = true := by
  decide +kernel

-- R807, R241, R242: a port 7 read in the palette range loads the buffer from 0x2F01, cell 0x701 under horizontal mirroring;
-- R804: a port 4 read leaves the buffer
theorem test_read_buffer :
    (let s := { start with ppu := { State.reset.ppu with v := 0x3F01, nt := [(0x701, 0x5A)], pal := [(1, 0x2C)], readBuffer := 7 } }
     ((busRead 0x2007 s).1, (busRead 0x3FFF s).2.ppu.readBuffer, (busRead 0x2004 s).2.ppu.readBuffer)) = (0x2C, 0x5A, 7) := by
  decide +kernel

-- RamMirrors, ReadSideEffects: each clause at the ends of its range
theorem test_witness_addresses : (0x1FFF#16).toNat < 0x2000 ∧ 0x6000 ≤ (0xFFFF#16).toNat ∧
    ((0x2000#16).toNat < 0x4000 ∧ (0x2000#16).toNat % 8 ∉ [2, 4, 7]) ∧
    ((0x3FFE#16).toNat < 0x4000 ∧ (0x3FFE#16).toNat % 8 ∉ [2, 4, 7]) ∧
    (0x4000 ≤ (0x4000#16).toNat ∧ (0x4014#16).toNat ≤ 0x4014) ∧ (0x4018 ≤ (0x4018#16).toNat ∧ (0x5FFF#16).toNat < 0x6000) ∧
    (0x2000 ≤ (0x2000#16).toNat ∧ (0x3FFF#16).toNat < 0x4000) := by decide +kernel

-- OamDmaCopies: the last and first pages of each range
theorem test_witness_dma : (0x1F#8).toNat < 0x20 ∧ 0x60 ≤ (0x60#8).toNat ∧ 0x60 ≤ (0xFF#8).toNat := by decide +kernel

-- ControllerReads, ScrollRegisterWrites, PortReadValues
theorem test_witness_ports : (0x01#8).getLsbD 0 = true ∧ (0xFE#8).getLsbD 0 = false ∧ start.ppu.w = false ∧ 7 < 8 := by
  decide +kernel

-- PpuMemory: the edges of the windows, with CHR-RAM and with CHR-ROM; cells that are one and that are not
theorem test_witness_ppu_memory : (0x1FFF < 0x2000 ∧ 0x3EFF < 0x3F00 ∧ 0x3FFF < 0x4000) ∧ start.cart.chrBanks = 0 ∧
    ({ Cartridge.blank with chrBanks := 1 }).chrBanks ≠ 0 ∧
    (∀ ab ∈ [(0x1FFF, 0x1FFF), (0x2000, 0x2400), (0x2FFF, 0x2BFF), (0x3EFF, 0x2EFF), (0x3F00, 0x3FF0)],
      SameWritable Cartridge.blank ab.1 ab.2) ∧
    (∀ ab ∈ [(0x0FFF, 0x1FFF), (0x1FFF, 0x2000), (0x2000, 0x2800), (0x3EFF, 0x3F1F), (0x3F01, 0x3F11)],
      ¬SameWritable Cartridge.blank ab.1 ab.2) := by
  unfold SameWritable
  decide +kernel

-- DotAdvance at both ends of the frame; VblankEvents; FirstVblank; FramebufferWrites
theorem test_witness_dots : start.ppu.scanline = 0 ∧ start.ppu.dot = 0 ∧ start.ppu.vbl = false ∧
    start.ppu.rendering = false ∧
    (let p := (ppuTick { start with ppu := { State.reset.ppu with scanline := 261, dot := 340 } }).ppu
     (p.scanline, p.dot, p.frame) = (0, 0, 1)) ∧
    (let s := { start with ppu := { State.reset.ppu with scanline := 239, dot := 256 } }
     s.ppu.scanline < 240 ∧ 1 ≤ s.ppu.dot ∧ s.ppu.dot ≤ 256 ∧ s.ppu.rendering = false) ∧
    (let s := { start with ppu := { State.reset.ppu with scanline := 241, dot := 1 } }
     (s.ppu.frameSettings, (ppuTick s).ppu.frameSettings) = (0, 1)) := by decide +kernel

-- SpriteEvaluation: one sprite covers the line, and the limit 0 sets OVF
theorem test_witness_sprites :
    let p := { State.reset.ppu with mask := 0x18, oam := [(0, 20)] }
    p.rendering = true ∧ (spriteEvaluation 64 Cartridge.blank 21 p).sprLine.map SpriteRec.index = [0] ∧
    (spriteEvaluation 0 Cartridge.blank 21 p).ovf = true := by decide +kernel

-- FrameIrqTiming, SweepAdjusts, MixerRange
theorem test_witness_apu : Apu.reset.fsCount = 0 ∧ Apu.reset.frameIrq = false ∧ (1 = 1 ∨ 1 = 2) ∧ (2 = 1 ∨ 2 = 2) ∧
    Pulse.reset.output .target 1 ≤ 15 ∧ 15 ≤ 15 := by decide +kernel

-- PrgWindows: each mapper at the ends of its window
theorem test_witness_prg : Cartridge.blank.mapper = .nrom ∧ Cartridge.blank.prgBanks = 1 ∧
    ({ Cartridge.blank with prgBanks := 2 }).prgBanks = 2 ∧
    ({ Cartridge.blank with mapper := .mmc3 mmc3 }).mapper = .mmc3 mmc3 ∧ 1 ≤ Cartridge.blank.prgBanks ∧
    ({ Cartridge.blank with prgBanks := 8, mapper := .gxrom { prgBank := 0, chrBank := 0 } }).mapper =
      .gxrom { prgBank := 0, chrBank := 0 } ∧ 0x8000 ≤ 0xFFFF ∧ 0xE000 ≤ 0xFFFF := by decide +kernel

-- Mmc1FiveWrites: the reset write, the data writes, an address in each quarter
theorem test_witness_mmc1 : (0x80#8).getLsbD 7 = true ∧ (∀ d ∈ [(0x00 : Byte), 0x01, 0x7F, 0x00, 0x01], d.getLsbD 7 = false) ∧
    (0x8000 < 0xA000 ∧ 0xA000 ≤ 0xBFFF ∧ 0xBFFF < 0xC000 ∧ 0xDFFF < 0xE000 ∧ 0xE000 ≤ 0xFFFF) := by decide +kernel

-- Mmc3IrqAfterLatch
theorem test_witness_mmc3 : (let m := clocks .onZero 1 0
    1 ≤ m.irqLatch.toNat ∧ m.irqReload = true ∧ m.irqEnable = true ∧ m.irqPending = false) ∧
    (clocks .onTransition 255 0).irqLatch.toNat + 1 = 256 := by decide +kernel

-- InterruptPoll: each of the cases
theorem test_witness_poll : ({ start with ppu := { State.reset.ppu with nmiRequest := true } }).ppu.nmiRequest = true ∧
    ({ start with p := 0x20, apu := { Apu.reset with frameIrq := true } }).i = false ∧
    (Mapper.mmc3 { mmc3 with irqPending := true }).irqPending = true ∧ start.i = true ∧
    start.ppu.nmiRequest = false ∧ start.apu.frameIrq = false ∧ start.cart.mapper.irqPending = false := by decide +kernel

-- EffectiveAddresses: an instruction with a base count; a crossing and a read in the page
theorem test_witness_cycles : Instr.nop.mnemonic ≠ .jam ∧
    pagePenalty (.mem (.abx 0x10FF)) { start with x := 1 } = 1 ∧ pagePenalty (.mem (.abx 0x10FE)) { start with x := 1 } = 0 ∧
    pagePenalty (.mem (.aby 0xFFFF)) { start with y := 1 } = 1 := by decide +kernel

-- FaultIsTerminal, ResetValues: a machine that steps, one that has failed, a run that has and one that has not ended
theorem test_witness_fault : State.reset.fault = none ∧ goesOn (step State.reset) = true ∧
    ({ start with fault := some { opcode := 0x02, pc := 0x0300 } }).fault ≠ none ∧
    goesOn (step { start with fault := some { opcode := 0x02, pc := 0x0300 } }) = false ∧
    (Run.start { start with fault := some { opcode := 0x02, pc := 0x0300 } }).state.fault = some { opcode := 0x02, pc := 0x0300 } ∧
    ((Run.start start).ending (.steps 0)) = some .reached ∧ (Run.start start).ending (.steps 1) = none ∧
    (Run.start start).ending (.frames 0) = some .reached := by decide +kernel

-- InvariantKept, InvariantAtReset, LockStepKept, StepKeepsCartridge
theorem test_witness_invariant : (State.reset.memoriesOk && State.reset.statusOk && State.reset.ppuOk && State.reset.apuOk &&
      State.reset.countsOk) = true ∧ State.reset.apu.cycle = State.reset.cycles ∧
    89342 * State.reset.ppu.frame + 341 * State.reset.ppu.scanline + State.reset.ppu.dot = 3 * State.reset.cycles ∧
    goesOn (step State.reset) = true ∧
    (match step { start with ram := [(0x300, 0x02)] } with
    | .next t => t.fault.isSome
    | _ => false) = true := by decide +kernel

/-- Any 16 KiB body after a good header: the mapper check is reached, and mapper 0 loads. -/
theorem test_load_body (body : List Byte) (h : body.length = 16384) :
    failsWith (.unsupportedMapper 2) (header 1 0 0x20 0 0 ++ body) = true ∧
    (∃ s, powerOn (header 1 0 0 0 0 ++ body) emptyInit Config.default = .ok s) := by
  constructor
  · simp [failsWith, powerOn, loadCartridge, headerMapper, header, Mapper.construct, h]
  · simp [powerOn, loadCartridge, headerMapper, header, Mapper.construct, h]

-- LoadErrors and InvariantAtReset: an image that fails at the last check, and one that loads
theorem test_witness_load : failsWith (.unsupportedMapper 2) (header 1 0 0x20 0 0 ++ List.replicate 16384 0) = true ∧
    (∃ s, powerOn (header 1 0 0 0 0 ++ List.replicate 16384 0) emptyInit Config.default = .ok s) :=
  test_load_body _ (List.length_replicate ..)

end Sys2Proof.Tests
end

section
/-! PROOFS. What an instruction and a step can do, said once.

`Effect ws s t`: t comes from s by bus accesses and by updates of CPU registers, of which only those in `ws` change.
`exec_effect` gives every instruction its effect, by mnemonic; the writers of each flag and register and, with
`Kept.step`, what every step keeps follow from it. -/

namespace Sys2Proof.Machine

/-! ### The slots of the CPU -/

/-- A register, or a flag of P (R100-R105). -/
inductive Slot where
  | a | x | y | sp | pc
  | flag (f : Flag)
  deriving DecidableEq

/-- The slot holds the same value in both states. -/
def Slot.Same (s t : State) : Slot → Prop
  | .a => t.a = s.a
  | .x => t.x = s.x
  | .y => t.y = s.y
  | .sp => t.sp = s.sp
  | .pc => t.pc = s.pc
  | .flag f => t.p.getLsbD f.pos = s.p.getLsbD f.pos

theorem Slot.Same.refl (k : Slot) (s : State) : k.Same s s := by cases k <;> rfl

theorem Slot.Same.trans {k : Slot} {s t u : State} (h : k.Same s t) (h' : k.Same t u) : k.Same s u := by
  cases k <;> exact Eq.trans h' h

/-- The live B and U stay well formed where both flags stay as they are (R113). -/
theorem statusOk_of_same {s t : State} (hb : (Slot.flag .b).Same s t) (hu : (Slot.flag .u).Same s t)
    (h : s.statusOk = true) : t.statusOk = true := by
  simp only [Slot.Same, Flag.pos] at hb hu
  simpa only [State.statusOk, hb, hu] using h

/-! ### Updates of the CPU alone -/

/-- t is s but for the CPU's registers, cycle counter and fault record; of the slots only those in `ws` change, and the
live B and U stay well formed (R113). -/
structure CpuUpdate (ws : List Slot) (s t : State) : Prop where
  outside : t = withCpu t s
  same : ∀ k ∉ ws, k.Same s t
  status : s.statusOk = true → t.statusOk = true

namespace CpuUpdate

variable {ws ws' all : List Slot} {s t u : State}

theorem refl (s : State) : CpuUpdate ws s s := ⟨rfl, fun k _ => .refl k s, id⟩

/-- Two updates, one after the other. The joined list is an equation, so that a list written out is met by `rfl`. -/
theorem trans (h : CpuUpdate ws s t) (h' : CpuUpdate ws' t u) (hws : ws ++ ws' = all := by rfl) :
    CpuUpdate all s u := by
  subst hws
  exact {
    outside := h'.outside.trans (by rw [h.outside]; rfl)
    same := fun k hk =>
      (h.same k fun hm => hk (List.mem_append_left _ hm)).trans (h'.same k fun hm => hk (List.mem_append_right _ hm))
    status := h'.status ∘ h.status }

theorem mono (h : CpuUpdate ws s t) (hs : ws ⊆ ws') : CpuUpdate ws' s t :=
  { h with same := fun k hk => h.same k fun hm => hk (hs hm) }

theorem setA (r : Byte) (s : State) : CpuUpdate [.a] s { s with a := r } :=
  ⟨rfl, fun k hk => by cases k <;> simp_all [Slot.Same], id⟩

theorem setX (r : Byte) (s : State) : CpuUpdate [.x] s { s with x := r } :=
  ⟨rfl, fun k hk => by cases k <;> simp_all [Slot.Same], id⟩

theorem setY (r : Byte) (s : State) : CpuUpdate [.y] s { s with y := r } :=
  ⟨rfl, fun k hk => by cases k <;> simp_all [Slot.Same], id⟩

theorem setSp (r : Byte) (s : State) : CpuUpdate [.sp] s { s with sp := r } :=
  ⟨rfl, fun k hk => by cases k <;> simp_all [Slot.Same], id⟩

theorem setPc (w : Word) (s : State) : CpuUpdate [.pc] s { s with pc := w } :=
  ⟨rfl, fun k hk => by cases k <;> simp_all [Slot.Same], id⟩

theorem spend (n : Nat) (s : State) : CpuUpdate [] s (spend n s) := ⟨rfl, fun k _ => by cases k <;> rfl, id⟩

theorem raiseFatal (op : Byte) (s : State) : CpuUpdate [.pc] s (raiseFatal op s) :=
  ⟨rfl, fun k hk => by cases k <;> simp_all [Slot.Same], id⟩

/-- One flag set, but not B or U. -/
theorem setFlag (f : Flag) (b : Bool) (s : State) (hb : f ≠ .b := by decide) (hu : f ≠ .u := by decide) :
    CpuUpdate [.flag f] s { s with p := setBit s.p f.pos b } := by
  have hsame : ∀ k ∉ [Slot.flag f], k.Same s { s with p := setBit s.p f.pos b } := by
    intro k hk
    cases k with
    | flag g =>
      have hg : g ≠ f := by simpa using hk
      simpa [Slot.Same, List.lookup, beq_false_of_ne hg] using flagsAfter_setBit s.p f b g
    | _ => rfl
  exact ⟨rfl, hsame, statusOk_of_same (hsame _ (by simpa using hb.symm)) (hsame _ (by simpa using hu.symm))⟩

theorem setC (b : Bool) (s : State) : CpuUpdate [.flag .c] s (setC b s) := setFlag .c b s

theorem setI (b : Bool) (s : State) : CpuUpdate [.flag .i] s (setI b s) := setFlag .i b s

theorem setD (b : Bool) (s : State) : CpuUpdate [.flag .d] s (setD b s) := setFlag .d b s

theorem setV (b : Bool) (s : State) : CpuUpdate [.flag .v] s (setV b s) := setFlag .v b s

theorem setZN (r : Byte) (s : State) : CpuUpdate [.flag .z, .flag .n] s (setZN r s) :=
  (setFlag .z (r == 0) s).trans (setFlag .n (r.getLsbD 7) _)

theorem loadA (r : Byte) (s : State) : CpuUpdate [.a, .flag .z, .flag .n] s (loadA r s) := (setA r s).trans (setZN r _)

theorem loadX (r : Byte) (s : State) : CpuUpdate [.x, .flag .z, .flag .n] s (loadX r s) := (setX r s).trans (setZN r _)

theorem loadY (r : Byte) (s : State) : CpuUpdate [.y, .flag .z, .flag .n] s (loadY r s) := (setY r s).trans (setZN r _)

theorem loadAX (r : Byte) (s : State) : CpuUpdate [.a, .x, .flag .z, .flag .n] s (loadAX r s) :=
  ((setA r s).trans (setX r _)).trans (setZN r _)

theorem addCore (m : Byte) (s : State) : CpuUpdate [.flag .c, .flag .v, .a, .flag .z, .flag .n] s (addCore m s) :=
  ((setC _ s).trans (setV _ _)).trans (loadA _ _)

theorem compare (r m : Byte) (s : State) : CpuUpdate [.flag .c, .flag .z, .flag .n] s (compare r m s) :=
  (setC _ s).trans (setZN _ _)

theorem testBits (m : Byte) (s : State) : CpuUpdate [.flag .z, .flag .n, .flag .v] s (testBits m s) :=
  ((setFlag .z _ s).trans (setFlag .n _ _)).trans (setFlag .v _ _)

/-- PLP and RTI write every flag, and force B and U (R113). -/
theorem pulledStatus (b : Byte) (s : State) :
    CpuUpdate ([.c, .z, .i, .d, .b, .u, .v, .n].map .flag) s { s with p := pulledStatus b } where
  outside := rfl
  same k hk := by
    cases k with
    | flag f => cases f <;> simp at hk
    | _ => rfl
  status _ := by
    have hb : (Machine.pulledStatus b).getLsbD 4 = false := flagsAfter_pulledStatus b .b
    have hu : (Machine.pulledStatus b).getLsbD 5 = true := flagsAfter_pulledStatus b .u
    simp only [State.statusOk, hb, hu, Bool.not_false, Bool.and_self]

/-- A pull moves SP (R15). -/
theorem pull (s : State) : CpuUpdate [.sp] s (pull s).2 := by
  rw [pull_eq]
  exact setSp _ s

theorem pullWord (s : State) : CpuUpdate [.sp] s (pullWord s).2 := by
  rw [pullWord_eq]
  exact setSp _ s

/-- Returning from an exception writes SP, P and PC (R563). -/
theorem returnFromException (s : State) :
    CpuUpdate (.sp :: [.c, .z, .i, .d, .b, .u, .v, .n].map .flag ++ [.pc]) s (returnFromException s) := by
  rw [returnFromException_eq]
  exact ((setSp _ s).trans (pulledStatus _ _)).trans (setPc _ _)

end CpuUpdate

/-! ### Updates and bus accesses together -/

/-- t comes from s by bus accesses and CPU updates that change slots of `ws` only. -/
inductive Effect (ws : List Slot) : State → State → Prop where
  | refl (s : State) : Effect ws s s
  | cpu {s t u : State} : Effect ws s t → CpuUpdate ws t u → Effect ws s u
  | read {s t : State} (addr : Word) : Effect ws s t → Effect ws s (busRead addr t).2
  | write {s t : State} (addr : Word) (d : Byte) : Effect ws s t → Effect ws s (busWrite addr d t)

namespace Effect

variable {ws ws' : List Slot} {s t u : State}

/-- A slot outside the list is unchanged: no bus access touches one. -/
theorem same (h : Effect ws s t) {k : Slot} (hk : k ∉ ws) : k.Same s t := by
  induction h with
  | refl => exact .refl k s
  | cpu _ hu ih => exact ih.trans (hu.same k hk)
  | read addr _ ih => exact ih.trans (by cases k <;> simp [Slot.Same])
  | write addr d _ ih => exact ih.trans (by cases k <;> simp [Slot.Same])

/-- The live B and U stay well formed (R113). -/
theorem status (h : Effect ws s t) (hs : s.statusOk = true) : t.statusOk = true := by
  induction h with
  | refl => exact hs
  | cpu _ hu ih => exact hu.status ih
  | read addr _ ih => simpa [State.statusOk] using ih
  | write addr d _ ih => simpa [State.statusOk] using ih

theorem mono (h : Effect ws s t) (hs : ws ⊆ ws') : Effect ws' s t := by
  induction h with
  | refl => exact .refl s
  | cpu _ hu ih => exact ih.cpu (hu.mono hs)
  | read addr _ ih => exact ih.read addr
  | write addr d _ ih => exact ih.write addr d

/-- An update of fewer slots. -/
theorem update (h : Effect ws s t) (hu : CpuUpdate ws' t u) (hs : ws' ⊆ ws) : Effect ws s u := h.cpu (hu.mono hs)

theorem spend (h : Effect ws s t) (n : Nat) : Effect ws s (spend n t) := h.update (.spend n t) (List.nil_subset ws)

theorem readSource (h : Effect ws s t) (o : Source) : Effect ws s (readSource o t).2 := by
  cases o with
  | imm n => exact h
  | mem m => exact h.read _

/-- A push moves SP (R15). -/
theorem push (h : Effect ws s t) (v : Byte) (hsp : .sp ∈ ws) : Effect ws s (push v t) := by
  have hw := (h.write (stackAddr t.sp) v).update (.setSp (t.sp - 1) _) (by simpa using hsp)
  exact hw

theorem pushWord (h : Effect ws s t) (v : Word) (hsp : .sp ∈ ws) : Effect ws s (pushWord v t) :=
  (h.push _ hsp).push _ hsp

theorem readWord (h : Effect ws s t) (a : Word) : Effect ws s (readWord a t).2 := (h.read a).read (a + 1)

/-- Taking an exception moves SP and PC and sets I (R564, R710). -/
theorem takeException (vec : Word) (b : Byte) (s : State) :
    Effect [.sp, .flag .i, .pc] s (takeException vec b s) :=
  (((((Effect.refl s).pushWord s.pc (by simp)).push b (by simp)).update (.setI true _) (by simp)).readWord vec).update
    (.setPc _ _) (by simp)

end Effect

/-! ### The shapes of access -/

section
variable {ws ws' all : List Slot} {s t : State} {cyc : Nat}

theorem implied_effect {f : State → State} (hf : Effect ws s (f s)) (h : implied cyc f s = .next t) :
    Effect ws s t := by
  cases h
  exact hf.spend cyc

theorem implied_update {f : State → State} (hf : CpuUpdate ws s (f s)) : implied cyc f s = .next t → Effect ws s t :=
  implied_effect ((Effect.refl s).cpu hf)

theorem readWith_effect {o : Source} {f : Byte → State → State} (hf : ∀ m s, CpuUpdate ws s (f m s))
    (h : readWith cyc o f s = .next t) : Effect ws s t := by
  cases h
  exact (((Effect.refl s).readSource o).cpu (hf _ _)).spend _

theorem storeAt_effect {addr : Word} {v : Byte} (h : storeAt cyc addr v s = .next t) : Effect [] s t := by
  cases h
  exact ((Effect.refl s).write addr v).spend _

theorem modify_effect {m : MemForm} {op : Byte → State → Byte × State} {g : Byte → State → State}
    (hop : ∀ m s, CpuUpdate ws s (op m s).2) (hg : ∀ r s, CpuUpdate ws' s (g r s)) (hws : ws ++ ws' = all := by rfl)
    (h : modify cyc m op g s = .next t) : Effect all s t := by
  subst hws
  cases h
  exact (((((Effect.refl s).read _).update (hop _ _) (List.subset_append_left ws ws')).write _ _).update (hg _ _)
    (List.subset_append_right ws ws')).spend _

theorem modifyA_effect {op : Byte → State → Byte × State} (hop : ∀ m s, CpuUpdate ws s (op m s).2)
    (h : modifyA cyc op s = .next t) : Effect (ws ++ [.a, .flag .z, .flag .n]) s t := by
  cases h
  exact ((Effect.refl s).cpu ((hop _ s).trans (.loadA _ _))).spend cyc

theorem branch_effect {cond : Bool} {d : Int} (h : branch cyc cond d s = .next t) : Effect [.pc] s t := by
  cases cond <;> cases h
  · exact (Effect.refl s).spend cyc
  · exact ((Effect.refl s).cpu (.setPc _ s)).spend _

end

/-! ### Every instruction -/

/-- The slots the rule of a mnemonic writes, in the order it writes them (R400-R624). -/
def footprint : Mnemonic → List Slot
  | .lda | .txa | .tya | .and | .ora | .eor => [.a, .flag .z, .flag .n]
  | .ldx | .tax | .tsx | .inx | .dex => [.x, .flag .z, .flag .n]
  | .ldy | .tay | .iny | .dey => [.y, .flag .z, .flag .n]
  | .lax | .lxa => [.a, .x, .flag .z, .flag .n]
  | .las => [.sp, .a, .x, .flag .z, .flag .n]
  | .pla => [.sp, .a, .flag .z, .flag .n]
  | .adc | .sbc | .isc => [.flag .c, .flag .v, .a, .flag .z, .flag .n]
  | .rra => [.flag .c, .flag .c, .flag .v, .a, .flag .z, .flag .n]
  | .bit => [.flag .z, .flag .n, .flag .v]
  | .cmp | .cpx | .cpy | .dcp => [.flag .c, .flag .z, .flag .n]
  | .asl | .lsr | .rol | .ror | .slo | .rla | .sre | .alr => [.flag .c, .a, .flag .z, .flag .n]
  | .anc => [.a, .flag .z, .flag .n, .flag .c]
  | .arr => [.a, .flag .z, .flag .n, .flag .c, .flag .v]
  | .ane => [.a, .flag .z, .flag .n]
  | .sbx => [.flag .c, .x, .flag .z, .flag .n]
  | .inc | .dec => [.flag .z, .flag .n]
  | .sta | .stx | .sty | .sax | .sha | .shx | .shy | .nop => []
  | .tas | .txs | .pha | .php => [.sp]
  | .bpl | .bmi | .bvc | .bvs | .bcc | .bcs | .bne | .beq | .jmp | .jam => [.pc]
  | .jsr | .rts => [.sp, .pc]
  | .brk => [.sp, .flag .i, .pc]
  | .plp => .sp :: [.c, .z, .i, .d, .b, .u, .v, .n].map .flag
  | .rti => .sp :: [.c, .z, .i, .d, .b, .u, .v, .n].map .flag ++ [.pc]
  | .clc | .sec => [.flag .c]
  | .cli | .sei => [.flag .i]
  | .cld | .sed => [.flag .d]
  | .clv => [.flag .v]

section
variable {ws : List Slot} {f : Form} {s t : State}

theorem onOperand_effect {k : Source → StepResult} (h : onOperand f k = some (.next t))
    (hk : ∀ o, k o = .next t → Effect ws s t) : Effect ws s t := by
  obtain ⟨o, -, ho⟩ := onOperand_eq h
  exact hk o ho.symm

theorem onMem_effect {k : MemForm → StepResult} (h : onMem f k = some (.next t))
    (hk : ∀ m, k m = .next t → Effect ws s t) : Effect ws s t := by
  obtain ⟨m, -, hm⟩ := onMem_eq h
  exact hk m hm.symm

theorem onShift_effect {k : MemForm → StepResult} {k' : StepResult} (h : onShift f k k' = some (.next t))
    (hk : ∀ m, k m = .next t → Effect ws s t) (hk' : k' = .next t → Effect ws s t) : Effect ws s t := by
  obtain ⟨m, -, hm⟩ | ⟨-, hm⟩ := onShift_eq h
  · exact hk m hm.symm
  · exact hk' hm.symm

theorem onRelative_effect {k : Int → StepResult} (h : onRelative f k = some (.next t))
    (hk : ∀ d, k d = .next t → Effect ws s t) : Effect ws s t := by
  obtain ⟨d, -, hd⟩ := onRelative_eq h
  exact hk d hd.symm

theorem onImplied_effect {k : StepResult} (h : onImplied f k = some (.next t))
    (hk : k = .next t → Effect ws s t) : Effect ws s t :=
  hk (onImplied_eq h).2.symm

end

theorem shift_effect {c : Nat} {f : Form} {op : Byte → State → Byte × State} {s t : State}
    (hop : ∀ m s, CpuUpdate [.flag .c] s (op m s).2)
    (h : onShift f (fun m => modify c m op setZN s) (modifyA c op s) = some (.next t)) :
    Effect [.flag .c, .a, .flag .z, .flag .n] s t :=
  onShift_effect h (fun _ hm => (modify_effect hop .setZN (h := hm)).mono (by simp)) (modifyA_effect hop)

/-- TAS writes SP before its store (R620). -/
theorem runTas_effect {cyc : Nat} {m : MemForm} {s t : State} (h : runTas cyc m s = .next t) : Effect [.sp] s t := by
  cases h
  exact (((Effect.refl s).cpu (.setSp _ s)).write _ _).spend _

/-- JMP indirect reads its pointer over the bus (R311). -/
theorem runJmpInd_effect {cyc : Nat} {p : Word} {s t : State} (h : runJmpInd cyc p s = .next t) : Effect [.pc] s t := by
  cases h
  exact ((((Effect.refl s).read _).read _).cpu (.setPc _ _)).spend _

theorem runJmpAbs_effect {cyc : Nat} {a : Word} {s t : State} (h : runJmpAbs cyc a s = .next t) : Effect [.pc] s t := by
  cases h
  exact ((Effect.refl s).cpu (.setPc a s)).spend cyc

theorem runJsr_effect {cyc : Nat} {a : Word} {s t : State} (h : runJsr cyc a s = .next t) : Effect [.sp, .pc] s t := by
  cases h
  exact (((Effect.refl s).pushWord _ (by simp)).update (.setPc a _) (by simp)).spend cyc

theorem runBrk_effect {cyc : Nat} {s t : State} (h : runBrk cyc s = .next t) : Effect [.sp, .flag .i, .pc] s t := by
  cases h
  exact (Effect.takeException _ _ s).spend cyc

/-- What a mnemonic's meaning can do. -/
theorem meaning_effect {c : Nat} {op : Byte} {f : Form} {s t : State} :
    ∀ {m : Mnemonic}, meaning m c op f s = some (.next t) → Effect (footprint m) s t
  | .lda, h => onOperand_effect h (fun _ => readWith_effect .loadA)
  | .ldx, h => onOperand_effect h (fun _ => readWith_effect .loadX)
  | .ldy, h => onOperand_effect h (fun _ => readWith_effect .loadY)
  | .lax, h => onOperand_effect h (fun _ => readWith_effect .loadAX)
  | .adc, h => onOperand_effect h (fun _ => readWith_effect .addCore)
  | .sbc, h => onOperand_effect h (fun _ => readWith_effect fun _ => .addCore _)
  | .and, h | .ora, h | .eor, h | .ane, h => onOperand_effect h (fun _ => readWith_effect fun _ s => .loadA _ s)
  | .bit, h => onOperand_effect h (fun _ => readWith_effect .testBits)
  | .cmp, h | .cpx, h | .cpy, h => onOperand_effect h (fun _ => readWith_effect fun _ s => .compare _ _ s)
  | .anc, h => onOperand_effect h (fun _ => readWith_effect fun _ s => (CpuUpdate.loadA _ s).trans (.setC _ _))
  | .alr, h => onOperand_effect h (fun _ => readWith_effect fun _ s => (CpuUpdate.setC _ s).trans (.loadA _ _))
  | .arr, h => onOperand_effect h
      (fun _ => readWith_effect fun _ s => ((CpuUpdate.loadA _ s).trans (.setC _ _)).trans (.setV _ _))
  | .sbx, h => onOperand_effect h (fun _ => readWith_effect fun _ s => (CpuUpdate.setC _ s).trans (.loadX _ _))
  | .lxa, h => onOperand_effect h (fun _ => readWith_effect fun _ s => .loadAX _ s)
  | .las, h => onOperand_effect h (fun _ => readWith_effect fun _ s => (CpuUpdate.setSp _ s).trans (.loadAX _ _))
  | .sta, h | .stx, h | .sty, h | .sax, h => onMem_effect h (fun _ => storeAt_effect)
  | .sha, h | .shx, h | .shy, h => onMem_effect h (fun _ => storeAt_effect)
  | .tas, h => onMem_effect h (fun _ => runTas_effect)
  | .inc, h | .dec, h => onMem_effect h (fun _ => modify_effect (ws := []) (fun _ => .refl) .setZN)
  | .slo, h | .rla, h | .sre, h => onMem_effect h (fun _ => modify_effect (fun _ s => .setC _ s) fun _ s => .loadA _ s)
  | .rra, h => onMem_effect h (fun _ => modify_effect (fun _ s => .setC _ s) .addCore)
  | .dcp, h => onMem_effect h (fun _ => modify_effect (ws := []) (fun _ => .refl) fun _ s => .compare _ _ s)
  | .isc, h => onMem_effect h (fun _ => modify_effect (ws := []) (fun _ => .refl) fun _ => .addCore _)
  | .asl, h | .lsr, h | .rol, h | .ror, h => shift_effect (fun _ s => .setC _ s) h
  | .bpl, h | .bmi, h | .bvc, h | .bvs, h | .bcc, h | .bcs, h | .bne, h | .beq, h =>
    onRelative_effect h (fun _ => branch_effect)
  | .tax, h | .tsx, h | .inx, h | .dex, h => onImplied_effect h (implied_update (.loadX _ s))
  | .tay, h | .iny, h | .dey, h => onImplied_effect h (implied_update (.loadY _ s))
  | .txa, h | .tya, h => onImplied_effect h (implied_update (.loadA _ s))
  | .txs, h => onImplied_effect h (implied_update (.setSp _ s))
  | .pha, h | .php, h => onImplied_effect h (implied_effect ((Effect.refl s).push _ (by simp [footprint])))
  | .pla, h => onImplied_effect h (implied_update ((CpuUpdate.pull s).trans (.loadA _ _)))
  | .plp, h => onImplied_effect h (implied_update ((CpuUpdate.pull s).trans (.pulledStatus _ _)))
  | .rts, h => onImplied_effect h (implied_update ((CpuUpdate.pullWord s).trans (.setPc _ _)))
  | .rti, h => onImplied_effect h (implied_update (.returnFromException s))
  | .clc, h | .sec, h => onImplied_effect h (implied_update (.setC _ s))
  | .cli, h | .sei, h => onImplied_effect h (implied_update (.setI _ s))
  | .cld, h | .sed, h => onImplied_effect h (implied_update (.setD _ s))
  | .clv, h => onImplied_effect h (implied_update (.setV _ s))
  | .jam, h => onImplied_effect h (fun hj => by cases hj; exact (Effect.refl s).cpu (.raiseFatal op s))
  | .jmp, h => by
    simp only [meaning] at h
    split at h
    · exact runJmpAbs_effect (Option.some.inj h)
    · exact runJmpInd_effect (Option.some.inj h)
    · cases h
  | .jsr, h => by
    simp only [meaning] at h
    split at h
    · exact runJsr_effect (Option.some.inj h)
    · cases h
  | .brk, h => by
    simp only [meaning] at h
    split at h
    · exact runBrk_effect (Option.some.inj h)
    · cases h
  | .nop, h => by
    simp only [meaning] at h
    split at h
    · exact implied_update (.refl s) (Option.some.inj h)
    · exact readWith_effect (fun _ => .refl) (Option.some.inj h)
    · cases h

/-- What an instruction can do: bus accesses, and updates of the slots its mnemonic writes (R320, R321). -/
theorem exec_effect {i : Instr} {s t : State} (h : exec i s = .next t) : Effect (footprint i.mnemonic) s t :=
  meaning_effect (h ▸ exec_meaning i s)

end Sys2Proof.Machine
end

section
/-! PROOFS. The writers of each flag and register, from `exec_effect`. -/

namespace Sys2Proof.Machine

/-- Settles O29: a flag outside a mnemonic's footprint is unchanged, and every effect keeps B and U. -/
theorem flagWriters : Obligations.FlagWriters := by
  intro i s t h
  have he := exec_effect h
  generalize i.mnemonic = m at he ⊢
  refine ⟨fun hm => he.same (k := .flag .c) ?_, fun hm => ⟨he.same (k := .flag .z) ?_, he.same (k := .flag .n) ?_⟩,
    fun hm => he.same (k := .flag .i) ?_, fun hm => he.same (k := .flag .d) ?_, fun hm => he.same (k := .flag .v) ?_,
    he.status⟩
  all_goals
    clear he
    revert hm
    cases m <;> decide

/-- Settles O30: a register outside a mnemonic's footprint is unchanged. -/
theorem registerWriters : Obligations.RegisterWriters := by
  intro i s t h
  have he := exec_effect h
  generalize i.mnemonic = m at he ⊢
  refine ⟨fun hm => he.same (k := .a) ?_, fun hm => he.same (k := .x) ?_, fun hm => he.same (k := .y) ?_,
    fun hm => he.same (k := .sp) ?_, fun hm => he.same (k := .pc) ?_⟩
  all_goals
    clear he
    revert hm
    cases m <;> decide

end Sys2Proof.Machine
end

section
/-! PROOFS. What a system step can do, said once: a property that the CPU's own updates, the bus accesses and the two
ticks keep is kept by every step (`Kept.step`). -/

namespace Sys2Proof.Machine

/-- Fetching a byte is a read and a move of PC (R18). -/
theorem fetchByte_effect {s t : State} (h : Effect [.pc] s t) : Effect [.pc] s (fetchByte t).2 :=
  (h.read t.pc).cpu (.setPc _ _)

/-- Fetching an instruction is up to three fetches of a byte (R321). -/
theorem fetchInstr_effect (s : State) : Effect [.pc] s (fetchInstr s).2 := by
  have hop := fetchByte_effect (.refl s)
  unfold fetchInstr
  dsimp only
  split
  · exact hop
  · exact fetchByte_effect hop
  · exact fetchByte_effect (fetchByte_effect hop)

/-- A property of states that each act a step is made of keeps. -/
structure Kept (Q : State → Prop) : Prop where
  cpu : ∀ {ws : List Slot} {s t : State}, CpuUpdate ws s t → Q s → Q t
  read : ∀ (addr : Word) {s : State}, Q s → Q (busRead addr s).2
  write : ∀ (addr : Word) (d : Byte) {s : State}, Q s → Q (busWrite addr d s)
  ppu : ∀ {s : State}, Q s → Q (ppuTick s)
  apu : ∀ {s : State}, Q s → Q (apuTick s)
  nmiTaken : ∀ {s : State}, Q s → Q { s with ppu := { s.ppu with nmiRequest := false } }

namespace Kept

variable {Q : State → Prop} {ws : List Slot} {s t : State}

theorem effect (hQ : Kept Q) (h : Effect ws s t) (hs : Q s) : Q t := by
  induction h with
  | refl => exact hs
  | cpu _ hu ih => exact hQ.cpu hu ih
  | read addr _ ih => exact hQ.read addr ih
  | write addr d _ ih => exact hQ.write addr d ih

theorem catchUp (hQ : Kept Q) (k : Nat) (hs : Q s) : Q (catchUp k s) :=
  catchUp_keeps (fun _ h => hQ.apu (hQ.ppu (hQ.ppu (hQ.ppu h)))) k s hs

theorem enter (hQ : Kept Q) (vec : Word) (hs : Q s) : Q (enter vec s) :=
  hQ.effect ((Effect.takeException vec _ s).spend 7) hs

theorem poll (hQ : Kept Q) (hs : Q s) : Q (poll s) := by
  unfold Machine.poll
  split
  · exact hQ.catchUp 7 (hQ.enter nmiVector (hQ.nmiTaken hs))
  · split
    · exact hQ.catchUp 7 (hQ.enter irqVector hs)
    · exact hs

theorem complete (hQ : Kept Q) (u : State) (hs : Q s) : Q (complete u s) := by
  unfold Machine.complete
  split
  · exact hs
  · exact hQ.poll (hQ.catchUp _ hs)

/-- Every system step keeps it (R1100). -/
theorem step (hQ : Kept Q) (h : step s = .next t) (hs : Q s) : Q t := by
  obtain ⟨-, u, hu, rfl⟩ := step_next h
  exact hQ.complete s (hQ.effect (exec_effect hu) (hQ.effect (fetchInstr_effect s) hs))

end Kept

/-- What bus reads and writes of OAMDATA keep, an OAM DMA keeps (R220). -/
theorem oamDmaFrom_keeps {Q : State → Prop} (read : ∀ (addr : Word) {s : State}, Q s → Q (busRead addr s).2)
    (port : ∀ (d : Byte) {s : State}, Q s → Q (portWrite 4 d s)) (d : Byte) (n : Nat) :
    ∀ (i : Nat) {s : State}, Q s → Q (oamDmaFrom d n i s) := by
  induction n with
  | zero => exact fun _ _ hs => hs
  | succ n ih => exact fun i _ hs => ih (i + 1) (port _ (read _ hs))

end Sys2Proof.Machine
end

section
/-! PROOFS. No step changes the image, the kind of mapper, the parameters or the buttons. -/

namespace Sys2Proof.Machine

/-- A PPU port write leaves the cartridge as it is, or is one CHR write (R807, R1008). -/
theorem portWrite_cart (n : Nat) (d : Byte) (s : State) :
    (portWrite n d s).cart = s.cart ∨ ∃ a, (portWrite n d s).cart = s.cart.chrWrite a d := by
  unfold portWrite ppuWrite
  dsimp only
  split
  iterate 7 exact .inl rfl
  split_ifs
  · exact .inr ⟨_, rfl⟩
  · exact .inl rfl
  · exact .inl rfl

/-- The header's fields, PRG-ROM, CHR-ROM and the kind of mapper are the same (R133). -/
structure Cartridge.SameImage (c d : Cartridge) : Prop where
  prgBanks : d.prgBanks = c.prgBanks
  prg : d.prg = c.prg
  chrBanks : d.chrBanks = c.chrBanks
  hdrMirror : d.hdrMirror = c.hdrMirror
  number : d.mapper.number = c.mapper.number
  chr : c.chrBanks ≠ 0 → d.chr = c.chr

namespace Cartridge.SameImage

variable {c d e : Cartridge}

theorem refl (c : Cartridge) : SameImage c c := ⟨rfl, rfl, rfl, rfl, rfl, fun _ => rfl⟩

/-- Another mapper of the same kind. -/
theorem withMapper (h : SameImage c d) {m : Mapper} (hm : m.number = d.mapper.number) :
    SameImage c { d with mapper := m } := { h with number := hm.trans h.number }

/-- CHR-ROM is not written (R1008). -/
theorem chrWrite (h : SameImage c d) (a : Nat) (v : Byte) : SameImage c (d.chrWrite a v) := by
  unfold Cartridge.chrWrite
  split
  · next hram =>
    have hzero : d.chrBanks = 0 := by simpa [Cartridge.chrIsRam] using hram
    exact { h with chr := fun hne => absurd (h.chrBanks.symm.trans hzero) hne }
  · exact h

/-- A CPU write reaches PRG-RAM and the mapper's registers only (R1006). -/
theorem write (h : SameImage c d) (a : Nat) (v : Byte) : SameImage c (d.write a v) := by
  unfold Cartridge.write
  split_ifs
  · exact h
  · exact { h with }
  · exact h.withMapper (by cases d.mapper <;> rfl)

/-- The scanline clock changes registers of MMC3 only (R1036). -/
theorem clockIrq (h : SameImage c d) (z : Mmc3IrqZero) : SameImage c { d with mapper := d.mapper.clockIrq z } :=
  h.withMapper (by cases d.mapper <;> rfl)

end Cartridge.SameImage

/-- A strobe write reads the buttons and leaves them (R230). -/
theorem Controller.write_buttons (c : Controller) (d : Byte) : (c.write d).buttons = c.buttons := by
  unfold Controller.write
  split <;> rfl

/-- The image, the parameters and the buttons are the same (R133, R135, R1120). -/
structure SameLoad (s t : State) : Prop where
  cfg : t.cfg = s.cfg
  image : s.cart.SameImage t.cart
  buttons : t.ctl.buttons = s.ctl.buttons

namespace SameLoad

variable {s t : State}

theorem busRead (h : SameLoad s t) (addr : Word) : SameLoad s (busRead addr t).2 where
  cfg := by simpa using h.cfg
  image := by simpa using h.image
  buttons := by
    rw [busRead_ctl]
    exact h.buttons

theorem portWrite (h : SameLoad s t) (n : Nat) (d : Byte) : SameLoad s (portWrite n d t) where
  cfg := by
    rw [portWrite_frame]
    exact h.cfg
  image := by
    obtain hc | ⟨a, hc⟩ := portWrite_cart n d t
    · exact hc ▸ h.image
    · exact hc ▸ h.image.chrWrite a d
  buttons := by
    rw [portWrite_frame]
    exact h.buttons

theorem busWrite (h : SameLoad s t) (addr : Word) (d : Byte) : SameLoad s (busWrite addr d t) := by
  unfold Machine.busWrite
  dsimp only
  split_ifs
  · exact { h with }
  · exact h.portWrite _ d
  · exact { h with }
  · exact oamDmaFrom_keeps (Q := SameLoad s) (fun addr _ h => h.busRead addr) (fun v _ h => h.portWrite 4 v) d 256 0 h
  · exact { h with }
  · exact { h with buttons := (t.ctl.write_buttons d).trans h.buttons }
  · exact { h with }
  · exact h
  · exact { h with image := h.image.write addr.toNat d }

theorem ppuTick (h : SameLoad s t) : SameLoad s (ppuTick t) := by
  rw [ppuTick_frame]
  obtain hm | hm := ppuTick_mapper t
  · exact { h with image := h.image.withMapper (by rw [hm]) }
  · rw [hm]
    exact { h with image := h.image.clockIrq _ }

end SameLoad

theorem kept_sameLoad (s : State) : Kept (SameLoad s) where
  cpu hu h := by
    rw [hu.outside]
    exact { h with }
  read addr _ h := h.busRead addr
  write addr d _ h := h.busWrite addr d
  ppu h := h.ppuTick
  apu h := { h with }
  nmiTaken h := { h with }

/-- Settles O60: each act of a step keeps the load, so every step does. -/
theorem stepKeepsCartridge : Obligations.StepKeepsCartridge := by
  intro s t h
  obtain ⟨hcfg, himage, hbuttons⟩ := (kept_sameLoad s).step h ⟨rfl, .refl _, rfl⟩
  exact ⟨hcfg, himage.prgBanks, himage.prg, himage.chrBanks, himage.hdrMirror, himage.number, himage.chr, hbuttons⟩

end Sys2Proof.Machine
end

section
/-! PROOFS. The run invariant device by device: for the PPU, the APU and the cartridge its part of `State.Inv`, and that
each operation of the device keeps it. -/

namespace Sys2Proof.Machine

/-! ### The PPU -/

/-- The PPU's part of the invariant (R123, R125-R128). -/
structure Ppu.Ok (limit : Nat) (p : Ppu) : Prop where
  nt : Cells.ok 2048 p.nt = true
  pal : Cells.ok 32 p.pal = true
  oam : Cells.ok 256 p.oam = true
  fb : Cells.ok 61440 p.fb = true
  scanline : p.scanline ≤ 261
  dot : p.dot ≤ 340
  sprites : p.sprLine.length ≤ limit

/-- Nametable RAM has two physical tables (R241, R242). -/
theorem ntIndex_lt (mode : Mirroring) (a : Nat) : ntIndex mode a < 2048 := by
  have htable : physicalTable mode ((a - 0x2000) % 0x1000 / 1024) ≤ 1 := by
    cases mode <;> simp only [physicalTable] <;> omega
  simp only [ntIndex]
  omega

/-- Palette RAM has 32 bytes (R243). -/
theorem palIndex_lt (a : Nat) : palIndex a < 32 := by
  simp only [palIndex]
  split <;> omega

namespace Ppu.Ok

variable {limit : Nat} {p : Ppu}

theorem writeOamData (h : p.Ok limit) (d : Byte) : (writeOamData d p).Ok limit :=
  { h with oam := write_ok d p.oamAddr.isLt h.oam }

theorem writeScroll (h : p.Ok limit) (d : Byte) : (writeScroll d p).Ok limit := by
  unfold Machine.writeScroll
  split <;> exact { h with }

theorem writeAddr (h : p.Ok limit) (d : Byte) : (writeAddr d p).Ok limit := by
  unfold Machine.writeAddr
  split <;> exact { h with }

/-- A sprite joins the set only below the limit (R850). -/
theorem evalSprite (h : p.Ok limit) (c : Cartridge) (y k : Nat) : (evalSprite limit c y k p).Ok limit := by
  unfold Machine.evalSprite
  dsimp only
  split_ifs with _ hroom
  · exact { h with sprites := by simpa using hroom }
  · exact { h with }
  · exact h

theorem evalSprites (c : Cartridge) (y : Nat) (n : Nat) :
    ∀ (k : Nat) {p : Ppu}, p.Ok limit → (evalSprites limit c y n k p).Ok limit := by
  induction n with
  | zero => exact fun _ _ h => h
  | succ n ih => exact fun k _ h => ih (k + 1) (h.evalSprite c y k)

theorem spriteEvaluation (h : p.Ok limit) (c : Cartridge) (y : Nat) : (spriteEvaluation limit c y p).Ok limit := by
  have hempty : ({ p with sprLine := [] } : Ppu).Ok limit := { h with sprites := Nat.zero_le limit }
  unfold Machine.spriteEvaluation
  split
  · exact evalSprites c y 64 0 hempty
  · exact hempty

/-- The pixel drawn is a cell of the framebuffer (R855). -/
theorem drawPixel (h : p.Ok limit) (c : Cartridge) {y px : Nat} (hy : y < 240) (hpx : px < 256) :
    (drawPixel c y px p).Ok limit := by
  have hcell : 256 * y + px < 61440 := by omega
  unfold Machine.drawPixel
  split <;> exact { h with fb := write_ok _ hcell h.fb }

theorem scrollUpdate (h : p.Ok limit) (line d : Nat) : (scrollUpdate line d p).Ok limit := by
  unfold Machine.scrollUpdate
  split_ifs
  · exact h
  iterate 4 exact { h with }
  · exact h

theorem visibleDot (h : p.Ok limit) (c : Cartridge) (hy : p.scanline < 240) : (visibleDot limit c p).Ok limit := by
  have hset : (if p.dot = 1 then Machine.spriteEvaluation limit c p.scanline p else p).Ok limit := by
    split
    · exact h.spriteEvaluation c _
    · exact h
  unfold Machine.visibleDot
  refine scrollUpdate ?_ _ _
  split
  · exact hset.drawPixel c hy (by omega)
  · exact hset

theorem preRenderDot (h : p.Ok limit) : (preRenderDot p).Ok limit := by
  unfold Machine.preRenderDot
  refine scrollUpdate ?_ _ _
  split
  · exact { h with }
  · exact h

/-- The position stays a dot of the frame (R820). -/
theorem advanceDot (h : p.Ok limit) : (advanceDot p).Ok limit := by
  have hline := h.scanline
  have hdot := h.dot
  unfold Machine.advanceDot
  split_ifs with hend hlast
  · exact { h with scanline := Nat.zero_le _, dot := Nat.zero_le _ }
  · exact { h with scanline := by show p.scanline + 1 ≤ 261; omega, dot := Nat.zero_le _ }
  · exact { h with dot := by show p.dot + 1 ≤ 340; omega }

end Ppu.Ok

/-! ### The APU -/

/-- The APU's part of the invariant (R131, R731, R940, R950). -/
structure Apu.Ok (u : Apu) : Prop where
  fsCount : u.fsCount < if u.fsMode then 37282 else 29830
  timer : u.noise.timer.toNat ≤ 4067
  lfsr : u.noise.lfsr ≠ 0

/-- A noise timer starts below the longest period (R903, R950). -/
theorem noiseReload_le : ∀ i : BitVec 4, (noiseReload i).toNat ≤ 4067 := by decide

/-- A shifted LFSR is 0 only if it held 1, and then bit 14 is fed (R950). -/
theorem Noise.nextLfsr_ne_zero (c : Noise) (h : c.lfsr ≠ 0) :
    (c.lfsr >>> 1) ||| (if c.feedback then 0x4000 else 0) ≠ 0 := by
  intro hzero
  obtain ⟨hshift, hfed⟩ := BitVec.or_eq_zero_iff.mp hzero
  have hhigh (k : Nat) : c.lfsr.getLsbD (k + 1) = false := by
    simpa [Nat.add_comm] using congrArg (·.getLsbD k) hshift
  have hfeed : c.feedback = false := by
    cases hf : c.feedback with
    | false => rfl
    | true => simp [hf] at hfed
  have hlow : c.lfsr.getLsbD 0 = false := by
    have hother : c.lfsr.getLsbD (if c.mode then 6 else 1) = false := by
      split
      · exact hhigh 5
      · exact hhigh 0
    simpa [Noise.feedback, hother] using hfeed
  apply h
  apply BitVec.eq_of_getLsbD_eq
  intro i _
  cases i with
  | zero => simpa using hlow
  | succ k => simpa using hhigh k

namespace Apu.Ok

variable {u : Apu}

theorem write (h : u.Ok) (a : Nat) (d : Byte) : (u.write a d).Ok := by
  unfold Apu.write
  split <;> exact { h with }

theorem writeEnable (h : u.Ok) (d : Byte) : (u.writeEnable d).Ok := { h with }

theorem quarterClock (h : u.Ok) : u.quarterClock.Ok := { h with }

theorem halfClock (h : u.Ok) (low : SweepLowTest) : (u.halfClock low).Ok := { h with }

/-- The count 0 is below either period (R940). -/
theorem restart (h : u.Ok) : ({ u with fsCount := 0 } : Apu).Ok where
  fsCount := by show 0 < if u.fsMode then 37282 else 29830; split <;> decide
  timer := h.timer
  lfsr := h.lfsr

/-- A `$4017` write starts the sequence anew, in either mode (R941). -/
theorem writeFrame (h : u.Ok) (low : SweepLowTest) (d : Byte) : (u.writeFrame low d).Ok := by
  have hnew : ({ u with
      fsMode := d.getLsbD 7, irqInhibit := d.getLsbD 6
      frameIrq := u.frameIrq && !d.getLsbD 6, fsCount := 0 } : Apu).Ok :=
    { fsCount := by show 0 < if d.getLsbD 7 then 37282 else 29830; split <;> decide, timer := h.timer, lfsr := h.lfsr }
  unfold Apu.writeFrame
  dsimp only
  split
  · exact hnew.quarterClock.halfClock low
  · exact hnew

/-- The 4-step sequence goes back to 0 at its period (R940). -/
theorem fourStep {n : Nat} (low : SweepLowTest) (h : n ≠ 29830 → u.Ok) (hzero : ({ u with fsCount := 0 } : Apu).Ok) :
    (u.fourStep low n).Ok := by
  unfold Apu.fourStep
  dsimp only
  split_ifs with h1 h2 h3 h4
  · exact (h (by omega)).quarterClock
  · exact (h (by omega)).quarterClock.halfClock low
  · exact { (h (by omega)).quarterClock.halfClock low with }
  · exact hzero
  · exact h h4

/-- The 5-step sequence goes back to 0 at its period (R940). -/
theorem fiveStep {n : Nat} (low : SweepLowTest) (h : n ≠ 37282 → u.Ok) (hzero : ({ u with fsCount := 0 } : Apu).Ok) :
    (u.fiveStep low n).Ok := by
  unfold Apu.fiveStep
  split_ifs with h1 h2 h3
  · exact (h (by omega)).quarterClock
  · exact (h (by omega)).quarterClock.halfClock low
  · exact hzero
  · exact h h3

theorem sequencer (h : u.Ok) (low : SweepLowTest) : (u.sequencer low).Ok := by
  have hcount := h.fsCount
  unfold Apu.sequencer
  dsimp only
  split at hcount <;> rename_i hmode
  · rw [if_pos hmode]
    exact fiveStep low (fun hn => { h with fsCount := by simp [hmode]; omega }) { h.restart with }
  · rw [if_neg hmode]
    exact fourStep low (fun hn => { h with fsCount := by simp [hmode]; omega }) { h.restart with }

/-- The noise timer counts down from a reload value, and the LFSR never stops (R950). -/
theorem noiseClock (h : u.Ok) : ({ u with noise := u.noise.timerClock } : Apu).Ok := by
  have htimer := h.timer
  unfold Noise.timerClock
  split
  · exact { h with timer := noiseReload_le _, lfsr := u.noise.nextLfsr_ne_zero h.lfsr }
  · next hne =>
    refine { h with timer := ?_ }
    show (u.noise.timer - 1).toNat ≤ 4067
    bv_omega

theorem tick (h : u.Ok) (low : SweepLowTest) : (u.tick low).Ok := by
  have hseq := h.sequencer low
  unfold Apu.tick
  dsimp only
  split <;> exact { (show Apu.Ok _ from { hseq with }).noiseClock with }

end Apu.Ok

/-! ### The cartridge and the controller port -/

/-- The cartridge's part of the invariant (R133, R134). -/
structure Cartridge.Ok (c : Cartridge) : Prop where
  prgRam : Cells.ok 8192 c.prgRam = true
  prg : Cells.ok c.prgSize c.prg = true
  chr : Cells.ok c.chrSize c.chr = true
  port : ∀ m : Mmc1, c.mapper = .mmc1 m → m.count ≤ 4

/-- The fifth write empties the serial port (R1020). -/
theorem Mmc1.write_count_le {m : Mmc1} (h : m.count ≤ 4) (a : Nat) (d : Byte) : (m.write a d).count ≤ 4 := by
  unfold Mmc1.write
  dsimp only
  split
  · exact Nat.zero_le 4
  · split
    · split <;> exact Nat.zero_le 4
    · show m.count + 1 ≤ 4
      omega

namespace Cartridge.Ok

variable {c : Cartridge}

theorem chrWrite (h : c.Ok) (a : Nat) (d : Byte) : (c.chrWrite a d).Ok := by
  unfold Cartridge.chrWrite
  split
  · next hram =>
    have hsize : c.chrSize = 8192 := if_pos hram
    have hlt : c.chrOffset a % 8192 < c.chrSize := by omega
    exact { h with chr := write_ok d hlt h.chr }
  · exact h

theorem write (h : c.Ok) (a : Nat) (d : Byte) : (c.write a d).Ok := by
  unfold Cartridge.write
  split_ifs
  · exact h
  · exact { h with prgRam := write_ok d (by omega) h.prgRam }
  · refine { h with port := fun m hm => ?_ }
    cases hmap : c.mapper <;> simp only [hmap, Mapper.write] at hm <;> cases hm
    exact Mmc1.write_count_le (h.port _ hmap) a d

/-- The scanline clock leaves a serial port alone (R1036). -/
theorem clockIrq (h : c.Ok) (z : Mmc3IrqZero) : ({ c with mapper := c.mapper.clockIrq z } : Cartridge).Ok := by
  refine { h with port := fun m hm => h.port m ?_ }
  cases hmap : c.mapper <;> simp only [hmap, Mapper.clockIrq] at hm <;> cases hm
  rfl

end Cartridge.Ok
end Sys2Proof.Machine
end

section
/-! PROOFS. The run invariant: its parts, that every act of a step keeps it, and that reset and power-on meet it. -/

namespace Sys2Proof.Machine

/-- `State.Inv` by device. -/
structure InvParts (s : State) : Prop where
  ram : Cells.ok 2048 s.ram = true
  status : s.statusOk = true
  ctl : s.ctl.shiftIndex ≤ 8
  ppu : s.ppu.Ok s.cfg.spriteLimit
  apu : s.apu.Ok
  cart : s.cart.Ok

/-- The count of the serial port as `State.countsOk` says it. -/
theorem countsOk_iff (s : State) :
    s.countsOk = true ↔ s.ctl.shiftIndex ≤ 8 ∧ ∀ m : Mmc1, s.cart.mapper = .mmc1 m → m.count ≤ 4 := by
  unfold State.countsOk
  cases hm : s.cart.mapper <;> simp

theorem inv_iff (s : State) : s.Inv ↔ InvParts s := by
  simp only [State.Inv, State.memoriesOk, State.ppuOk, State.apuOk, countsOk_iff, Bool.and_eq_true, decide_eq_true_eq,
    bne_iff_ne, and_assoc]
  constructor
  · rintro ⟨hram, hprgRam, hprg, hchr, hnt, hpal, hoam, hfb, hstatus, hline, hdot, hset, hcount, htimer, hlfsr, hctl,
      hport⟩
    exact ⟨hram, hstatus, hctl, ⟨hnt, hpal, hoam, hfb, hline, hdot, hset⟩, ⟨hcount, htimer, hlfsr⟩,
      ⟨hprgRam, hprg, hchr, hport⟩⟩
  · rintro ⟨hram, hstatus, hctl, hp, hu, hc⟩
    exact ⟨hram, hc.prgRam, hc.prg, hc.chr, hp.nt, hp.pal, hp.oam, hp.fb, hstatus, hp.scanline, hp.dot, hp.sprites,
      hu.fsCount, hu.timer, hu.lfsr, hctl, hc.port⟩

/-- A pad read moves the shift index to 8 at most (R231). -/
theorem busRead_shiftIndex_le {s : State} (addr : Word) (h : s.ctl.shiftIndex ≤ 8) :
    (busRead addr s).2.ctl.shiftIndex ≤ 8 := by
  unfold busRead
  dsimp only
  split_ifs
  · exact h
  · rw [portRead_frame]
    exact h
  · exact h
  · simp only [controllerRead]
    split <;> omega
  iterate 3 exact h

/-- A strobe write leaves the shift index or sets it to 0 (R230). -/
theorem Controller.write_shiftIndex_le {c : Controller} (h : c.shiftIndex ≤ 8) (d : Byte) :
    (c.write d).shiftIndex ≤ 8 := by
  unfold Controller.write
  split
  · exact Nat.zero_le 8
  · exact h

namespace InvParts

variable {s : State}

theorem busRead (h : InvParts s) (addr : Word) : InvParts (busRead addr s).2 where
  ram := by simpa using h.ram
  status := by simpa [State.statusOk] using h.status
  ctl := busRead_shiftIndex_le addr h.ctl
  ppu := by
    rw [busRead_ppu, busRead_cfg]
    exact { h.ppu with }
  apu := by
    rw [busRead_apu]
    exact { h.apu with }
  cart := by simpa using h.cart

/-- A write on the PPU bus stays within CHR-RAM, nametable RAM or palette RAM (R240). -/
theorem ppuWrite (h : InvParts s) (addr : Nat) (d : Byte) : InvParts (ppuWrite addr d s) := by
  unfold Machine.ppuWrite
  dsimp only
  split_ifs
  · exact { h with cart := h.cart.chrWrite _ d }
  · exact { h with ppu := { h.ppu with nt := write_ok d (ntIndex_lt _ _) h.ppu.nt } }
  · exact { h with ppu := { h.ppu with pal := write_ok d (palIndex_lt _) h.ppu.pal } }

theorem portWrite (h : InvParts s) (n : Nat) (d : Byte) : InvParts (portWrite n d s) := by
  have hl : InvParts (setLatch d s) := { h with ppu := { h.ppu with } }
  unfold Machine.portWrite
  dsimp only
  split
  · exact { hl with ppu := { hl.ppu with } }
  · exact { hl with ppu := { hl.ppu with } }
  · exact hl
  · exact { hl with ppu := { hl.ppu with } }
  · exact { hl with ppu := hl.ppu.writeOamData d }
  · exact { hl with ppu := hl.ppu.writeScroll d }
  · exact { hl with ppu := hl.ppu.writeAddr d }
  · have hw := hl.ppuWrite (setLatch d s).ppu.dataAddr d
    exact { hw with ppu := { hw.ppu with } }

theorem busWrite (h : InvParts s) (addr : Word) (d : Byte) : InvParts (busWrite addr d s) := by
  unfold Machine.busWrite
  dsimp only
  split_ifs
  · exact { h with ram := write_ok d (Nat.mod_lt _ (by decide)) h.ram }
  · exact h.portWrite _ d
  · exact { h with apu := h.apu.write _ d }
  · exact oamDmaFrom_keeps (fun addr _ h => h.busRead addr) (fun v _ h => h.portWrite 4 v) d 256 0 h
  · exact { h with apu := h.apu.writeEnable d }
  · exact { h with ctl := Controller.write_shiftIndex_le h.ctl d }
  · exact { h with apu := h.apu.writeFrame _ d }
  · exact h
  · exact { h with cart := h.cart.write addr.toNat d }

theorem scanlineClock (h : InvParts s) : InvParts (scanlineClock s) := by
  unfold Machine.scanlineClock
  split
  · exact { h with cart := h.cart.clockIrq _ }
  · exact h

theorem processDot (h : InvParts s) : InvParts (processDot s) := by
  unfold Machine.processDot
  split_ifs with hvisible
  · exact scanlineClock { h with ppu := h.ppu.visibleDot s.cart hvisible }
  · exact { h with ppu := { h.ppu with } }
  · exact h
  · exact scanlineClock { h with ppu := h.ppu.preRenderDot }
  · exact h

theorem ppuTick (h : InvParts s) : InvParts (ppuTick s) :=
  { h.processDot with ppu := h.processDot.ppu.advanceDot }

end InvParts

theorem kept_invParts : Kept InvParts where
  cpu hu h := by
    have hstatus := hu.status h.status
    rw [hu.outside] at hstatus ⊢
    exact { h with status := hstatus }
  read addr _ h := h.busRead addr
  write addr d _ h := h.busWrite addr d
  ppu h := h.ppuTick
  apu h := { h with apu := h.apu.tick _ }
  nmiTaken h := { h with ppu := { h.ppu with } }

/-- Settles O57: each act of a step keeps the invariant's parts, so every step does. -/
theorem invariantKept : Obligations.InvariantKept := by
  intro s t hs h
  exact (inv_iff t).mpr (kept_invParts.step h ((inv_iff s).mp hs))

/-! ### Reset and power-on -/

theorem Apu.reset_ok : Apu.reset.Ok := ⟨by decide, by decide, by decide⟩

/-- A reset gives the invariant to a machine whose memories and cartridge meet it (R1200, R136). -/
theorem InvParts.resetRegisters {s : State} (hram : Cells.ok 2048 s.ram = true) (hppu : s.ppu.Ok s.cfg.spriteLimit)
    (hcart : s.cart.Ok) : InvParts (resetRegisters s) where
  ram := hram
  status := (by decide : State.reset.statusOk = true)
  ctl := Nat.zero_le 8
  ppu := ⟨hppu.nt, hppu.pal, hppu.oam, hppu.fb, Nat.zero_le _, Nat.zero_le _, Nat.zero_le _⟩
  apu := Apu.reset_ok
  cart := hcart

/-- A mapper is constructed with an empty serial port (R1004, R1026). -/
theorem Mapper.construct_count {number : Nat} {mirror : Bool} {m : Mapper} (h : Mapper.construct number mirror = some m)
    (p : Mmc1) (hp : m = .mmc1 p) : p.count ≤ 4 := by
  subst hp
  unfold Mapper.construct at h
  split at h <;> cases h
  exact Nat.zero_le 4

/-- A list cut to n values makes a memory of n cells. -/
theorem ofValues_take_ok {w : Nat} (n : Nat) (l : List (BitVec w)) : Cells.ok n (Cells.ofValues 0 (l.take n)) = true :=
  ofValues_ok _ (List.length_take_le n l)

/-- A cartridge that loads is canonical and within its sizes (R1002-R1004). -/
theorem loadCartridge_ok {img : List Byte} {init : InitMem} {c : Cartridge} (h : loadCartridge img init = .ok c) :
    c.Ok := by
  unfold loadCartridge at h
  dsimp only at h
  split at h
  · cases h
  · split at h
    · cases h
    · split at h
      · cases h
      · next m hm =>
        cases h
        refine ⟨ofValues_take_ok _ _, ofValues_take_ok _ _, ?_, Mapper.construct_count hm⟩
        simp only [Cartridge.chrSize, Cartridge.chrIsRam, beq_iff_eq]
        split <;> exact ofValues_take_ok _ _

/-- A machine that powers on meets the invariant (R1110). -/
theorem powerOn_invParts {img : List Byte} {init : InitMem} {cfg : Config} {s : State}
    (h : powerOn img init cfg = .ok s) : InvParts s := by
  unfold powerOn at h
  split at h
  · cases h
  · next c hc =>
    cases h
    exact .resetRegisters (ofValues_take_ok _ _)
      ⟨ofValues_take_ok _ _, ofValues_take_ok _ _, ofValues_take_ok _ _, ofValues_take_ok _ _, Nat.zero_le _,
        Nat.zero_le _, Nat.zero_le _⟩ (loadCartridge_ok hc)

/-- The reset state is its own reset: the vector of the blank cartridge reads 0x0000 (log entry 1). -/
theorem resetRegisters_reset : resetRegisters State.reset = State.reset := rfl

/-- Settles O58: the blank machine's memories are empty, and a power-on cuts every list to its memory's size. -/
theorem invariantAtReset : Obligations.InvariantAtReset := by
  refine ⟨(inv_iff _).mpr ?_, fun img init cfg s h => (inv_iff s).mpr (powerOn_invParts h)⟩
  rw [← resetRegisters_reset]
  exact .resetRegisters rfl ⟨rfl, rfl, rfl, rfl, Nat.zero_le _, Nat.zero_le _, Nat.zero_le _⟩ ⟨rfl, rfl, rfl, nofun⟩

end Sys2Proof.Machine
end

section
/-! PROOFS. The CPU bus: what an access in each range of addresses is (R201, R202), the windows of internal RAM and the
side effects of reads. -/

namespace Sys2Proof.Machine

/-! ### Reads by range -/

section

variable {addr : Word} (s : State)

/-- A read of a PPU register window is a read of the port it mirrors (R201). -/
theorem busRead_of_port (h : 0x2000 ≤ addr.toNat) (h' : addr.toNat < 0x4000) :
    busRead addr s = portRead (addr.toNat % 8) s := by
  unfold busRead
  dsimp only
  rw [if_neg (by omega), if_pos h']

/-- A read of an address nothing drives is an open-bus draw (R201, R1006). -/
theorem busRead_of_open
    (h : (0x4000 ≤ addr.toNat ∧ addr.toNat ≤ 0x4014) ∨ (0x4018 ≤ addr.toNat ∧ addr.toNat < 0x6000)) :
    busRead addr s = openBusRead s := by
  unfold busRead
  dsimp only
  rw [if_neg (by omega), if_neg (by omega), if_neg (by omega), if_neg (by omega), if_neg (by omega), if_pos (by omega)]

end

theorem busRead_4015 (s : State) : busRead 0x4015 s = apuStatusRead s := rfl

theorem busRead_4016 (s : State) : busRead 0x4016 s = controllerRead s := rfl

theorem busRead_4017 (s : State) : busRead 0x4017 s = (0x40, s) := rfl

theorem busWrite_4014 (d : Byte) (s : State) : busWrite 0x4014 d s = oamDma d s := by
  simp [busWrite]

theorem busWrite_4016 (d : Byte) (s : State) : busWrite 0x4016 d s = { s with ctl := s.ctl.write d } := rfl

/-! ### Internal RAM -/

/-- Settles O32: both accesses go to the address modulo 0x800. -/
theorem ramMirrors : Obligations.RamMirrors := by
  intro s a b d ha hb
  rw [busWrite_to_ram d s ha]
  refine ⟨?_, rfl⟩
  rw [busRead_of_ram _ hb, busRead_of_ram _ hb]
  exact read_write ..

/-! ### Side effects of reads -/

/-- The ports a read of which acts are 2, 4 and 7 (R214). -/
theorem portRead_writeOnly {n : Nat} (h : n ∉ [2, 4, 7]) (s : State) : portRead n s = (s.ppu.latch, s) := by
  unfold portRead
  split
  iterate 3 simp at h
  rfl

/-- What a port read leaves in the PPU (R802, R804, R807, R808). -/
theorem portRead_snd {n : Nat} (hn : n < 8) (s : State) : (portRead n s).2 = { s with ppu := { s.ppu with
    vbl := s.ppu.vbl && decide (n ≠ 2)
    w := s.ppu.w && decide (n ≠ 2)
    oamAddr := if n = 4 then s.ppu.oamAddr + 1 else s.ppu.oamAddr
    v := if n = 7 then s.ppu.v + s.ppu.inc else s.ppu.v
    readBuffer :=
      if n = 7 then ppuRead s.cart s.ppu (if s.ppu.dataAddr < 0x3F00 then s.ppu.dataAddr else s.ppu.dataAddr - 0x1000)
      else s.ppu.readBuffer
    latch := (portRead n s).1 } } := by
  by_cases h : n ∈ [2, 4, 7]
  · simp only [List.mem_cons, List.not_mem_nil, or_false] at h
    obtain rfl | rfl | rfl := h
    · simp [portRead, readStatus]
    · simp [portRead, readOamData]
    · simp [portRead, readData, advanceV, Ppu.inc, apply_ite (ppuRead s.cart s.ppu)]
  · rw [portRead_writeOnly h]
    simp only [List.mem_cons, List.not_mem_nil, or_false, not_or] at h
    simp [h]

/-- Settles O33, range by range. -/
theorem readSideEffects : Obligations.ReadSideEffects := by
  intro s a
  refine ⟨?silent, fun h => busRead_of_open s h, ?status, ?pad, ?port⟩
  case silent =>
    rintro (h | h | rfl | ⟨h, hport⟩)
    · rw [busRead_of_ram s h]
    · rw [busRead_of_cart s h]
    · rw [busRead_4017]
    · by_cases hram : a.toNat < 0x2000
      · rw [busRead_of_ram s hram]
      · rw [busRead_of_port s (by omega) h, portRead_writeOnly hport]
  case status =>
    rintro rfl
    rw [busRead_4015, apuStatusRead]
  case pad =>
    rintro rfl
    rw [busRead_4016, controllerRead]
    split_ifs <;> rfl
  case port =>
    intro h h'
    rw [busRead_of_port s h h']
    exact ⟨rfl, portRead_snd (Nat.mod_lt _ (by decide)) s⟩

end Sys2Proof.Machine
end

section
/-! PROOFS. OAM DMA (R220): from a page whose reads have no side effect, each transfer copies one byte and changes
nothing else. -/

namespace Sys2Proof.Machine

/-- The byte OAM DMA reads k-th from page d. -/
def dmaByte (d : Byte) (s : State) (k : Nat) : Byte := (busRead (BitVec.ofNat 16 (d.toNat * 256 + k)) s).1

/-- One transfer: a bus read, then a write of OAMDATA. -/
def dmaTransfer (d : Byte) (k : Nat) (s : State) : State :=
  portWrite 4 (dmaByte d s k) (busRead (BitVec.ofNat 16 (d.toNat * 256 + k)) s).2

/-- The last of n + 1 transfers. -/
theorem oamDmaFrom_succ (d : Byte) (n : Nat) : ∀ (i : Nat) (s : State),
    oamDmaFrom d (n + 1) i s = dmaTransfer d (i + n) (oamDmaFrom d n i s) := by
  induction n with
  | zero => exact fun _ _ => rfl
  | succ n ih =>
    intro i s
    rw [oamDmaFrom, ih, Nat.add_right_comm i 1 n]
    rfl

/-- A page of RAM or of the cartridge (R201). -/
theorem isStorable_page {d : Byte} (hd : d.toNat < 0x20 ∨ 0x60 ≤ d.toNat) {k : Nat} (hk : k < 256) :
    isStorable (BitVec.ofNat 16 (d.toNat * 256 + k)) = true := by
  have hlt := d.isLt
  have haddr : (BitVec.ofNat 16 (d.toNat * 256 + k)).toNat = d.toNat * 256 + k :=
    (BitVec.toNat_ofNat ..).trans (Nat.mod_eq_of_lt (by omega))
  simp only [isStorable, Bool.or_eq_true, decide_eq_true_eq, haddr]
  omega

/-- The byte at a plain address depends on RAM and the cartridge only. -/
theorem busRead_plain_congr {addr : Word} {s t : State} (h : isStorable addr = true) (hram : t.ram = s.ram)
    (hcart : t.cart = s.cart) : (busRead addr t).1 = (busRead addr s).1 := by
  rw [busRead_plain t h, busRead_plain s h, hram, hcart]

/-- t is s after n transfers from page d. -/
structure DmaDone (d : Byte) (s : State) (n : Nat) (t : State) : Prop where
  frame : t = { s with ppu := { s.ppu with
    oam := t.ppu.oam, oamAddr := s.ppu.oamAddr + BitVec.ofNat 8 n, latch := t.ppu.latch } }
  copied : ∀ k < n, Cells.read t.ppu.oam ((s.ppu.oamAddr.toNat + k) % 256) = dmaByte d s k
  latch : ∀ k, n = k + 1 → t.ppu.latch = dmaByte d s k

namespace DmaDone

variable {d : Byte} {s t : State} {n : Nat}

theorem zero (d : Byte) (s : State) : DmaDone d s 0 s where
  frame := by simp
  copied := nofun
  latch := nofun

theorem transfer (hd : d.toNat < 0x20 ∨ 0x60 ≤ d.toNat) (hn : n < 256) (h : DmaDone d s n t) :
    DmaDone d s (n + 1) (dmaTransfer d n t) := by
  have hpage := isStorable_page hd hn
  have hram : t.ram = s.ram := by rw [h.frame]
  have hcart : t.cart = s.cart := by rw [h.frame]
  have haddr : t.ppu.oamAddr = s.ppu.oamAddr + BitVec.ofNat 8 n := by rw [h.frame]
  have hcell : t.ppu.oamAddr.toNat = (s.ppu.oamAddr.toNat + n) % 256 := by simp [haddr, BitVec.toNat_add]
  have hstep : dmaTransfer d n t = { t with ppu := { t.ppu with
      oam := Cells.write t.ppu.oam ((s.ppu.oamAddr.toNat + n) % 256) (dmaByte d s n)
      oamAddr := s.ppu.oamAddr + BitVec.ofNat 8 (n + 1), latch := dmaByte d s n } } := by
    have hbyte : dmaByte d t n = dmaByte d s n := busRead_plain_congr hpage hram hcart
    have hnext : t.ppu.oamAddr + 1 = s.ppu.oamAddr + BitVec.ofNat 8 (n + 1) := by
      rw [haddr, BitVec.add_assoc, BitVec.ofNat_add]
      rfl
    rw [dmaTransfer, hbyte, busRead_plain t hpage, ← hcell, ← hnext]
    rfl
  rw [hstep]
  refine ⟨?_, fun k hk => ?_, fun k hk => by cases hk; rfl⟩
  · rw [h.frame]
  · obtain rfl | hlt := Nat.eq_or_lt_of_le (Nat.le_of_lt_succ hk)
    · exact read_write_same ..
    · exact (read_write_other _ _ (by omega)).trans (h.copied k hlt)

end DmaDone

theorem oamDmaFrom_done {d : Byte} (hd : d.toNat < 0x20 ∨ 0x60 ≤ d.toNat) (s : State) {n : Nat} (hn : n ≤ 256) :
    DmaDone d s n (oamDmaFrom d n 0 s) := by
  induction n with
  | zero => exact .zero d s
  | succ n ih =>
    rw [oamDmaFrom_succ, Nat.zero_add]
    exact (ih (by omega)).transfer hd hn

/-- Settles O34: after 256 transfers every cell is copied and OAMADDR has wrapped to where it began. -/
theorem oamDmaCopies : Obligations.OamDmaCopies := by
  intro s d hd
  have h := oamDmaFrom_done hd s (Nat.le_refl 256)
  have hbyte (k : Nat) : (busRead (BitVec.ofNat 16 (256 * d.toNat + k)) s).1 = dmaByte d s k := by
    rw [Nat.mul_comm]
    rfl
  simp only [hbyte, busWrite_4014, oamDma]
  refine ⟨h.copied, ?_⟩
  have hframe := h.frame
  rw [h.latch 255 rfl] at hframe
  simpa using hframe

end Sys2Proof.Machine
end

section
/-! PROOFS. The controller port (R230-R232): the strobe latches the buttons, and each read shifts one out. -/

namespace Sys2Proof.Machine

namespace Controller

variable {c : Controller}

/-- A write with bit 0 set raises the strobe (R230). -/
theorem write_strobe {d : Byte} (h : d.getLsbD 0 = true) (c : Controller) : c.write d = { c with strobe := true } := by
  rw [Controller.write, h, Bool.not_true, Bool.and_false]
  rfl

/-- The falling edge latches the buttons (R230). -/
theorem write_latch {d : Byte} (h : d.getLsbD 0 = false) (hc : c.strobe = true) :
    c.write d = { c with strobe := false, shiftReg := c.buttons, shiftIndex := 0 } := by
  rw [Controller.write, h, hc]
  rfl

end Controller

/-- k reads of 0x4016 with the strobe off move the shift index by k, up to 8 (R231). -/
theorem busRead_4016_iterate {s : State} (hs : s.ctl.strobe = false) (h : s.ctl.shiftIndex = 0) (k : Nat) :
    (fun u => (busRead 0x4016 u).2)^[k] s = { s with ctl := { s.ctl with shiftIndex := min k 8 } } := by
  induction k with
  | zero =>
    rw [Function.iterate_zero, id, Nat.zero_min, ← h]
  | succ k ih =>
    rw [Function.iterate_succ_apply', ih, busRead_4016, controllerRead]
    have hnext : (if min k 8 < 8 then min k 8 + 1 else min k 8) = min (k + 1) 8 := by
      split <;> omega
    simp only [hs, true_and, hnext]

/-- The value of a read of 0x4016 as a number. -/
theorem controllerByte_toNat : ∀ b : Bool, (setBit 0x40 0 b).toNat = 0x40 + bit b := by decide

theorem bit_getLsbD (m : Byte) (k : Nat) : bit (m.getLsbD k) = m.toNat / 2 ^ k % 2 := by
  rw [BitVec.getLsbD, bit, Nat.testBit_eq_decide_div_mod_eq]
  simp only [decide_eq_true_eq]
  split <;> omega

/-- Settles O35: after k reads the shift index is k, and 8 once the byte is shifted out. -/
theorem controllerReads : Obligations.ControllerReads := by
  intro s d e k hd he
  dsimp only
  rw [busWrite_4016, busWrite_4016, Controller.write_strobe hd, Controller.write_latch he rfl,
    busRead_4016_iterate rfl rfl, busRead_4016, controllerRead, controllerByte_toNat]
  by_cases hk : k < 8
  · have hmin : min k 8 = k := by omega
    simp only [Controller.bit, hmin, if_pos hk, Bool.false_eq_true, if_false, bit_getLsbD]
  · have hmin : min k 8 = 8 := by omega
    simp [Controller.bit, hmin, hk, bit]

end Sys2Proof.Machine
end

section
/-! PROOFS. The PPU bus (R240-R244): the byte behind each address as a number, and reads after a write. -/

namespace Sys2Proof.Machine

/-! ### Cells as numbers -/

/-- The tables in numbers are those of the mode in force (R242, R244, R1024, R1033). -/
theorem physicalTables_eq (c : Cartridge) : physicalTables c = (List.range 4).map (physicalTable c.mirroring) := by
  unfold physicalTables Cartridge.mirroring
  cases c.mapper with
  | nrom => simp only [Mapper.mirroring]; split <;> rfl
  | gxrom _ => simp only [Mapper.mirroring]; split <;> rfl
  | mmc1 m =>
    have hmode : m.control.toNat % 4 < 4 := Nat.mod_lt _ (by decide)
    simp only [Mapper.mirroring]
    interval_cases m.control.toNat % 4 <;> rfl
  | mmc3 m => simp only [Mapper.mirroring]; split <;> rfl

theorem ntIndex_eq (c : Cartridge) {a : Nat} (h : 0x2000 ≤ a) (h' : a < 0x3F00) :
    ntIndex c.mirroring a = nametableCell c a := by
  have htable : (a - 0x2000) % 0x1000 / 1024 = a / 1024 % 4 := by omega
  have hlt : a / 1024 % 4 < 4 := Nat.mod_lt _ (by decide)
  have hphys : (physicalTables c).getD (a / 1024 % 4) 0 = physicalTable c.mirroring (a / 1024 % 4) := by
    simp [physicalTables_eq, hlt]
  simp only [ntIndex, nametableCell, htable, hphys]
  omega

theorem palIndex_eq (a : Nat) : palIndex a = paletteCell a := by
  simp only [palIndex, paletteCell]
  split_ifs <;> omega

theorem and_FE_toNat : ∀ r : Byte, (r &&& 0xFE#8).toNat = r.toNat / 2 * 2 := by decide +kernel

theorem or_one_toNat : ∀ r : Byte, (r ||| 1#8).toNat = r.toNat / 2 * 2 + 1 := by decide +kernel

/-- The CHR offset of MMC1 in numbers (R1023). -/
theorem Mmc1.chrOffset_eq (m : Mmc1) {a : Nat} (h : a < 0x2000) : m.chrOffset a =
    if m.control.toNat / 16 = 0 then 8192 * (m.chr0.toNat / 2) + a
    else 4096 * (if a < 4096 then m.chr0.toNat else m.chr1.toNat) + a % 4096 := by
  have hmode : m.control.getLsbD 4 = decide (m.control.toNat / 16 ≠ 0) := by
    have hlt := m.control.isLt
    rw [BitVec.getLsbD, Nat.testBit_eq_decide_div_mod_eq, decide_eq_decide]
    omega
  simp only [Mmc1.chrOffset, hmode, decide_eq_true_eq, ite_not]
  split_ifs <;> omega

/-- Bit 7 of the bank select exchanges the halves of the pattern table (R1032). -/
theorem Mmc3.window_eq (r : Byte) {k : Nat} (hk : k < 8) :
    (if r.getLsbD 7 then k ^^^ 4 else k) = (k + r.toNat / 128 * 4) % 8 := by
  have hlt := r.isLt
  rw [getLsbD_seven_eq]
  simp only [decide_eq_true_eq]
  split
  · have hr : r.toNat / 128 = 1 := by omega
    rw [hr]
    interval_cases k <;> rfl
  · have hr : r.toNat / 128 = 0 := by omega
    omega

/-- The CHR offset of each mapper in numbers (R1010, R1023, R1032, R1040). -/
theorem chrOffset_eq (c : Cartridge) {a : Nat} (h : a < 0x2000) : c.chrOffset a = patternOffset c a := by
  unfold Cartridge.chrOffset patternOffset
  cases c.mapper with
  | nrom => rfl
  | mmc1 m => exact m.chrOffset_eq h
  | mmc3 m =>
    have hk : a / 1024 < 8 := by omega
    have hw : (a / 1024 + m.bankSelect.toNat / 128 * 4) % 8 < 8 := Nat.mod_lt _ (by decide)
    simp only [Mmc3.chrOffset, Nat.mod_eq_of_lt hk, Mmc3.window_eq m.bankSelect hk]
    interval_cases (a / 1024 + m.bankSelect.toNat / 128 * 4) % 8 <;>
      simp [and_FE_toNat, or_one_toNat, Nat.mul_comm, -BitVec.toNat_and, -BitVec.toNat_or]
  | gxrom m => simp only [Nat.mul_comm]

/-- The offset does not depend on what CHR holds. -/
theorem patternOffset_withChr (c : Cartridge) (m : Memory) : patternOffset { c with chr := m } = patternOffset c := rfl

theorem chrSize_eq (c : Cartridge) : c.chrSize = chrBytes c := by
  simp [Cartridge.chrSize, Cartridge.chrIsRam, chrBytes]

/-! ### Accesses in numbers -/

/-- A read on the PPU bus, with the cell as a number (R240). -/
theorem ppuRead_eq (c : Cartridge) (p : Ppu) {a : Nat} (h : a < 0x4000) : ppuRead c p a =
    if a < 0x2000 then Cells.read c.chr (patternOffset c a % chrBytes c)
    else if a < 0x3F00 then Cells.read p.nt (nametableCell c a)
    else Cells.read p.pal (paletteCell a) := by
  simp only [ppuRead, Nat.mod_eq_of_lt h]
  split_ifs with hchr hnt
  · rw [Cartridge.chrRead, Cartridge.chrByte, chrOffset_eq c hchr, chrSize_eq]
  · rw [ntIndex_eq c (by omega) hnt]
  · rw [palIndex_eq]

/-- A write on the PPU bus, with the cell as a number (R240, R1008). -/
theorem ppuWrite_eq {a : Nat} (h : a < 0x4000) (d : Byte) (s : State) : ppuWrite a d s =
    if a < 0x2000 then
      if s.cart.chrBanks = 0 then
        { s with cart := { s.cart with chr := Cells.write s.cart.chr (patternOffset s.cart a % 8192) d } }
      else s
    else if a < 0x3F00 then { s with ppu := { s.ppu with nt := Cells.write s.ppu.nt (nametableCell s.cart a) d } }
    else { s with ppu := { s.ppu with pal := Cells.write s.ppu.pal (paletteCell a) d } } := by
  simp only [ppuWrite, Nat.mod_eq_of_lt h]
  split_ifs with hchr hram hnt
  · rw [Cartridge.chrWrite, if_pos (by simp [Cartridge.chrIsRam, hram]), chrOffset_eq _ hchr]
  · rw [Cartridge.chrWrite, if_neg (by simp [Cartridge.chrIsRam, hram])]
  · rw [ntIndex_eq _ (by omega) hnt]
  · rw [palIndex_eq]

section

variable {a b : Nat} (ha : a < 0x4000) (hb : b < 0x4000) (d : Byte) {s : State}
include ha hb

/-- A write is read back at every address of the same byte. -/
theorem ppuRead_ppuWrite_same (h : SameWritable s.cart a b) :
    ppuRead (ppuWrite a d s).cart (ppuWrite a d s).ppu b = d := by
  rw [ppuWrite_eq ha, ppuRead_eq _ _ hb]
  obtain ⟨ha, hb, hram, hcell⟩ | ⟨ha, ha', hb, hb', hcell⟩ | ⟨ha, hb, hcell⟩ := h
  · rw [if_pos ha, if_pos hram, if_pos hb, patternOffset_withChr, chrBytes, if_pos hram, hcell]
    exact read_write_same ..
  · rw [if_neg (Nat.not_lt.mpr ha), if_pos ha', if_neg (Nat.not_lt.mpr hb), if_pos hb', hcell]
    exact read_write_same ..
  · have hlow {n : Nat} (h : 0x3F00 ≤ n) : ¬n < 0x2000 := by omega
    rw [if_neg (hlow ha), if_neg (Nat.not_lt.mpr ha), if_neg (hlow hb), if_neg (Nat.not_lt.mpr hb), hcell]
    exact read_write_same ..

/-- Every other address reads as before. -/
theorem ppuRead_ppuWrite_other (h : ¬SameWritable s.cart a b) :
    ppuRead (ppuWrite a d s).cart (ppuWrite a d s).ppu b = ppuRead s.cart s.ppu b := by
  rw [ppuWrite_eq ha, ppuRead_eq s.cart s.ppu hb, ppuRead_eq _ _ hb]
  by_cases hchr : a < 0x2000
  · rw [if_pos hchr]
    by_cases hram : s.cart.chrBanks = 0
    · rw [if_pos hram, patternOffset_withChr, chrBytes, chrBytes, if_pos hram]
      exact ite_congr rfl (fun hb => read_write_other _ d fun hcell => h (.inl ⟨hchr, hb, hram, hcell⟩)) fun _ => rfl
    · rw [if_neg hram]
  · rw [if_neg hchr]
    by_cases hnt : a < 0x3F00
    · rw [if_pos hnt]
      exact ite_congr rfl (fun _ => rfl) fun hb => ite_congr rfl
        (fun hb' => read_write_other _ d fun hcell => h (.inr (.inl ⟨by omega, hnt, by omega, hb', hcell⟩))) fun _ => rfl
    · rw [if_neg hnt]
      exact ite_congr rfl (fun _ => rfl) fun _ => ite_congr rfl (fun _ => rfl)
        fun hb => read_write_other _ d fun hcell => h (.inr (.inr ⟨by omega, by omega, hcell⟩))

end

/-- Settles O38: the accesses in numbers, and of each write the memory it goes to. -/
theorem ppuMemory : Obligations.PpuMemory := by
  intro s a b d ha hb
  refine ⟨ppuRead_eq _ _ ha, ppuRead_ppuWrite_same ha hb d, ppuRead_ppuWrite_other ha hb d, ?_⟩
  rw [ppuWrite_eq ha]
  split_ifs with hchr hram hnt
  · exact ⟨rfl, fun _ => rfl, fun h => absurd hchr (by omega), fun h => absurd hram h, fun _ => rfl, fun _ => rfl⟩
  · exact ⟨rfl, fun _ => rfl, fun _ => rfl, fun _ => rfl, fun _ => rfl, fun _ => rfl⟩
  · exact ⟨rfl, fun h => absurd h hchr, fun _ => rfl, fun _ => rfl, fun _ => rfl, fun h => absurd hnt (by omega)⟩
  · exact ⟨rfl, fun h => absurd h hchr, fun _ => rfl, fun _ => rfl, fun h => absurd h hnt, fun _ => rfl⟩

end Sys2Proof.Machine
end

section
/-! PROOFS. The decoder against the encoder (R300, R301, R325).

A row filled with the operands of a form is an instruction. `decode_fill` says what the decoder reads from the bytes of a
filled row, and `decode_eq` that it reads nothing else. Two facts about the map close the circle, each run over its 256
rows: an instruction is its row filled with its own operands (`fill_operands`), and a filled row encodes to the row's
opcode and the operand bytes it was filled with (`encode_fill`). -/

namespace Sys2Proof

open Machine (lowByte highByte hiLo_high_low)

/-! ### Displacements -/

/-- A displacement byte stands for a displacement in range (R308). -/
theorem displacement_ok (b : Byte) : DisplacementOk (displacement b) := by
  have h := b.le_toInt
  have h' := b.toInt_lt
  simp only [displacement]
  omega

theorem displacement_ofInt {d : Int} (h : DisplacementOk d) : displacement (BitVec.ofInt 8 d) = d :=
  BitVec.toInt_ofInt_eq_self (by decide) h.1 (by omega)

theorem ofInt_displacement (b : Byte) : BitVec.ofInt 8 (displacement b) = b := BitVec.ofInt_toInt

/-! ### Rows filled with operands -/

namespace Row

/-- The instruction a row gives for an operand byte b or an absolute operand w. -/
def fill (b : Byte) (w : Word) : Row → Instr
  | none i => i
  | byte f => f b
  | word f => f w

/-- The operand bytes a row reads to be filled so, in address order (R210, R301). -/
def operandBytes (b : Byte) (w : Word) : Row → List Byte
  | none _ => []
  | byte _ => [b]
  | word _ => [lowByte w, highByte w]

end Row

/-- The operand byte of a form that has one. -/
def Form.operandByte : Form → Byte
  | .signature n | .operand (.imm n) => n
  | .operand (.mem (.zp n)) | .operand (.mem (.zpx n)) | .operand (.mem (.zpy n)) => n
  | .operand (.mem (.izx n)) | .operand (.mem (.izy n)) => n
  | .relative d => BitVec.ofInt 8 d
  | _ => 0

/-- The absolute operand of a form that has one. -/
def Form.operandWord : Form → Word
  | .operand (.mem (.abs a)) | .operand (.mem (.abx a)) | .operand (.mem (.aby a)) | .indirect a => a
  | _ => 0

/-- The decoder reads a row's operand bytes and fills the row with them. -/
theorem decode_fill (op b : Byte) (w : Word) (rest : List Byte) :
    decode (op :: (decodeRow op).operandBytes b w ++ rest) = .ok ((decodeRow op).fill b w, rest) := by
  cases h : decodeRow op <;> simp [decode, h, Row.operandBytes, Row.fill, hiLo_high_low]

/-- What the decoder reads is a row's operand bytes, and what it gives is the row filled with them. -/
theorem decode_eq {bytes rest : List Byte} {i : Instr} (h : decode bytes = .ok (i, rest)) :
    ∃ op b w, bytes = op :: (decodeRow op).operandBytes b w ++ rest ∧ i = (decodeRow op).fill b w := by
  unfold decode at h
  split at h
  · cases h
  · next op bytes =>
    refine ⟨op, ?_⟩
    split at h
    · next hrow =>
      cases h
      exact ⟨0, 0, by simp [hrow, Row.operandBytes, Row.fill]⟩
    · next b _ hrow =>
      cases h
      exact ⟨b, 0, by simp [hrow, Row.operandBytes, Row.fill]⟩
    · next lo hi _ hrow =>
      cases h
      exact ⟨0, hiLo hi lo, by simp [hrow, Row.operandBytes, Row.fill]⟩
    · cases h

/-- Every well-formed instruction is its opcode's row filled with its operands. -/
theorem fill_operands {i : Instr} (h : WellFormed i = true) :
    (decodeRow i.opcode).fill i.form.operandByte i.form.operandWord = i := by
  cases i with
  | bpl d | bmi d | bvc d | bvs d | bcc d | bcs d | bne d | beq d =>
    conv_rhs => rw [← displacement_ofInt (of_decide_eq_true h)]
    rfl
  | _ => rfl

/-- However a row is filled, the instruction has one opcode and the operand bytes the row reads, and is well formed. -/
def Row.Regular (r : Row) : Prop :=
  ∀ b w, encode (r.fill b w) = (r.fill 0 0).opcode :: r.operandBytes b w ∧ WellFormed (r.fill b w) = true

/-- Every row of the map is regular; for a branch that is the round trip of its displacement. -/
theorem opcodeRows_regular : ∀ r ∈ opcodeRows, r.Regular := by
  simp only [opcodeRows, opcodeRows0, opcodeRows1, opcodeRows2, opcodeRows3, opcodeRows4, opcodeRows5, opcodeRows6,
    opcodeRows7, opcodeRows8, opcodeRows9, opcodeRowsA, opcodeRowsB, opcodeRowsC, opcodeRowsD, opcodeRowsE, opcodeRowsF,
    List.forall_mem_append, List.forall_mem_cons, List.not_mem_nil, false_implies, implies_true, and_true]
  and_intros
  any_goals exact fun _ _ => ⟨rfl, rfl⟩
  all_goals exact fun b _ =>
    ⟨congrArg (fun b' => [_, b']) (ofInt_displacement b), decide_eq_true (displacement_ok b)⟩

/-- The opcodes of the rows count up from 0. -/
theorem opcodeRows_opcodes : opcodeRows.map (fun r => (r.fill 0 0).opcode.toNat) = List.range 256 := by decide +kernel

theorem opcode_fill_zero (op : Byte) : ((decodeRow op).fill 0 0).opcode = op := by
  have h := congrArg (·[op.toNat]?) opcodeRows_opcodes
  apply BitVec.eq_of_toNat_eq
  simpa [decodeRow, opcodeRows_length, op.isLt] using h

/-- A filled row of the map is well formed, and its encoding is the opcode and the row's operand bytes. -/
theorem encode_fill (op b : Byte) (w : Word) :
    encode ((decodeRow op).fill b w) = op :: (decodeRow op).operandBytes b w ∧
      WellFormed ((decodeRow op).fill b w) = true := by
  simpa only [opcode_fill_zero] using opcodeRows_regular (decodeRow op) (List.get_mem ..) b w

/-- A well-formed instruction's encoding is the opcode and what its row reads. -/
theorem encode_eq {i : Instr} (h : WellFormed i = true) :
    encode i = i.opcode :: (decodeRow i.opcode).operandBytes i.form.operandByte i.form.operandWord := by
  simpa only [fill_operands h] using (encode_fill i.opcode i.form.operandByte i.form.operandWord).1

/-- Settles O1: an instruction is its opcode's row filled with its operands, and the decoder fills the row with the bytes it
reads. -/
theorem decodeEncode : Obligations.DecodeEncode := by
  intro i rest h
  rw [encode_eq h, decode_fill, fill_operands h]

/-- Settles O2: what the decoder gives is a filled row, of which `encode_fill` says the rest; no row reads more than two
operand bytes. -/
theorem encodeDecode : Obligations.EncodeDecode := by
  refine ⟨fun bytes rest i h => ?_, fun b0 b1 b2 rest => ?_⟩
  · obtain ⟨op, b, w, rfl, rfl⟩ := decode_eq h
    obtain ⟨henc, hwf⟩ := encode_fill op b w
    exact ⟨by rw [henc], hwf⟩
  · cases h : decodeRow b0 <;> simp [decode, h]

/-- Settles O3, by running the decoder on each of the eight words. -/
theorem decodeWords : Obligations.DecodeWords := ⟨rfl, rfl, rfl, rfl, rfl, rfl, rfl, rfl⟩

end Sys2Proof
end

section
/-! PROOFS. The effective addresses as numbers (R304-R312), the page-cross condition with its cycle (R331) and the base
cycles of the map (R325, R330). -/

namespace Sys2Proof.Machine

/-! ### Addresses as numbers -/

@[simp] theorem zeroPage_toNat (z : Byte) : (zeroPage z).toNat = z.toNat :=
  BitVec.toNat_setWidth_of_le (by decide)

/-- The page of an address (R307). -/
theorem highByte_toNat (a : Word) : (highByte a).toNat = a.toNat / 256 := by
  have h := high_low_toNat a
  have hlow := (lowByte a).isLt
  omega

/-- An index is added modulo 65536 (R307, R310). -/
theorem indexed_addr_toNat (base : Word) (index : Byte) :
    (EffAddr.indexed base index).addr.toNat = (base.toNat + index.toNat) % 65536 := by
  have h := index.isLt
  simp only [EffAddr.indexed, BitVec.toNat_add, BitVec.toNat_setWidth]
  omega

/-- The pointer in page 0, its second byte with wrap (R309, R310, R312). -/
theorem zeroPagePointer_toNat (z : Byte) (s : State) : (zeroPagePointer z s).toNat =
    256 * (Cells.read s.ram ((z.toNat + 1) % 256)).toNat + (Cells.read s.ram z.toNat).toNat := by
  rw [zeroPagePointer_eq, hiLo_toNat, BitVec.toNat_add]
  rfl

/-! ### The page-cross condition -/

theorem direct_crossed_iff (a : Word) : (EffAddr.direct a).crossed = true ↔
    (EffAddr.direct a).base.toNat / 256 ≠ (EffAddr.direct a).addr.toNat / 256 := by
  simp [EffAddr.direct]

theorem indexed_crossed_iff (base : Word) (index : Byte) : (EffAddr.indexed base index).crossed = true ↔
    (EffAddr.indexed base index).base.toNat / 256 ≠ (EffAddr.indexed base index).addr.toNat / 256 := by
  simp only [EffAddr.indexed, bne_iff_ne, ne_eq, BitVec.toNat_inj.symm, highByte_toNat]

/-- In every memory form: crossed exactly if the pages of base and address differ (R307, R310). -/
theorem effAddr_crossed_iff (m : MemForm) (s : State) :
    (effAddr m s).crossed = true ↔ (effAddr m s).base.toNat / 256 ≠ (effAddr m s).addr.toNat / 256 := by
  cases m with
  | zp | zpx | zpy | abs | izx => exact direct_crossed_iff _
  | abx | aby | izy => exact indexed_crossed_iff ..

/-- The cycle a read of an indexed address pays for another page (R331). -/
theorem indexed_penalty (base : Word) (index : Byte) : (if (EffAddr.indexed base index).crossed then 1 else 0) =
    if (base.toNat + index.toNat) % 65536 / 256 = base.toNat / 256 then 0 else 1 := by
  simp only [indexed_crossed_iff, indexed_addr_toNat, ne_eq, ite_not]
  exact if_congr eq_comm rfl rfl

/-! ### Base cycles -/

/-- The counts in the cells of the map are those of their mode and class (R325, R330). -/
theorem opcodeCycles_eq : ∀ op : Byte, (rowOf op).1 ≠ .jam → opcodeCycles op = baseCycles (rowOf op).1 (rowOf op).2 := by
  decide +kernel

theorem cycles_eq {i : Instr} (h : i.mnemonic ≠ .jam) : i.cycles = baseCycles i.mnemonic (modeOf i.form) := by
  have hrow := opcodeCycles_eq i.opcode
  rw [rowOf_opcode] at hrow
  exact hrow h

/-- Settles O31, from the number of each address, the page-cross condition of `EffAddr.indexed` and the map's cycles. -/
theorem effectiveAddresses : Obligations.EffectiveAddresses := by
  intro s n w
  refine ⟨?zp, ?zpx, ?zpy, rfl, ?izx, ?abx, rfl, ?aby, rfl, ?izyBase, ?izy, ?crossed, ?penalty, fun i hi => cycles_eq hi⟩
  case zp => exact zeroPage_toNat n
  case zpx => exact (zeroPage_toNat _).trans (BitVec.toNat_add ..)
  case zpy => exact (zeroPage_toNat _).trans (BitVec.toNat_add ..)
  case izx =>
    refine (zeroPagePointer_toNat _ s).trans ?_
    rw [BitVec.toNat_add, Nat.mod_add_mod]
  case abx => exact indexed_addr_toNat w s.x
  case aby => exact indexed_addr_toNat w s.y
  case izyBase => exact zeroPagePointer_toNat n s
  case izy => exact indexed_addr_toNat ..
  case crossed => exact fun m => effAddr_crossed_iff m s
  case penalty =>
    refine ⟨?direct, indexed_penalty w s.x, indexed_penalty w s.y, ?izy⟩
    case direct => simp [pagePenalty, effAddr, EffAddr.direct]
    case izy =>
      rw [← zeroPagePointer_toNat]
      exact indexed_penalty ..

end Sys2Proof.Machine
end

section
/-! PROOFS. The frame of plain memory (R320, R203): which bytes of RAM, PRG-RAM and PRG-ROM an instruction can change.

`PlainKept bs s t`: every plain byte that no store at an address of `bs` touches reads in t as in s. A bus write is such a
store (`busWrite_untouched`), a bus read and an update of CPU registers change no plain byte, and every shape of access is
made of these. -/

namespace Sys2Proof.Machine

/-! ### One store -/

/-- A PPU port write leaves what a CPU read of the cartridge sees: it can reach CHR-RAM only (R807, R1008). -/
theorem portWrite_cart_read (n : Nat) (d : Byte) (s : State) (a : Nat) :
    (portWrite n d s).cart.read a = s.cart.read a := by
  obtain h | ⟨c, h⟩ := portWrite_cart n d s
  · rw [h]
  · rw [h, Cartridge.chrWrite]
    split <;> rfl

/-- OAM DMA leaves what a CPU read of the cartridge sees (R220). -/
theorem oamDma_cart_read (d : Byte) (s : State) (a : Nat) : (oamDma d s).cart.read a = s.cart.read a :=
  oamDmaFrom_keeps (Q := fun t => t.cart.read a = s.cart.read a) (fun addr t h => by simpa using h)
    (fun v t h => (portWrite_cart_read 4 v t a).trans h) d 256 0 rfl

/-- A write at or above 0x4020 leaves every byte of the cartridge but the one addressed in PRG-RAM, and the ROM window when
it reaches a mapper register (R1006). -/
theorem Cartridge.read_write_other (c : Cartridge) (d : Byte) {a b : Nat} (ha : 0x6000 ≤ a) (hab : a ≠ b)
    (hrom : b < 0x8000 ∨ a < 0x8000) : (c.write b d).read a = c.read a := by
  unfold Cartridge.write
  split_ifs with hnone hram
  · rfl
  · unfold Cartridge.read
    split_ifs with hlow
    · exact Machine.read_write_other _ _ (by omega)
    · rfl
  · have hlow : a < 0x8000 := by omega
    simp only [Cartridge.read, if_pos hlow]

/-- A bus write leaves every byte of the cartridge at another address, but a mapper register's write can move the ROM
window (R202, R1006). -/
theorem busWrite_cart_read (d : Byte) (s : State) {a : Nat} {b : Word} (ha : 0x6000 ≤ a) (hab : a ≠ b.toNat)
    (hrom : b.toNat < 0x8000 ∨ a < 0x8000) : (busWrite b d s).cart.read a = s.cart.read a := by
  unfold busWrite
  dsimp only
  split_ifs
  · rfl
  · exact portWrite_cart_read _ d s a
  · rfl
  · exact oamDma_cart_read d s a
  iterate 4 rfl
  · exact s.cart.read_write_other d ha hab hrom

theorem touches_eq_false {a b : Word} : touches b a = false ↔
    cellOf a ≠ cellOf b ∧ (b.toNat < 0x8000 ∨ a.toNat < 0x8000) := by
  simp [touches, Decidable.imp_iff_not_or]

/-- A plain byte that a store does not touch reads as before (R202, R203). -/
theorem busWrite_untouched {a b : Word} (d : Byte) (s : State) (ha : isStorable a = true) (hab : touches b a = false) :
    (busRead a (busWrite b d s)).1 = (busRead a s).1 := by
  obtain ⟨hcell, hrom⟩ := touches_eq_false.mp hab
  rw [busRead_plain _ ha, busRead_plain _ ha]
  simp only [cellOf] at hcell
  by_cases hram : a.toNat < 0x2000
  · simp only [if_pos hram, busWrite_ram] at hcell ⊢
    split_ifs with hb
    · rw [if_pos hb] at hcell
      exact read_write_other _ _ hcell.symm
    · rfl
  · have hcart : 0x6000 ≤ a.toNat := by simpa [isStorable, hram] using ha
    simp only [if_neg hram]
    exact busWrite_cart_read d s hcart (by split_ifs at hcell <;> omega) hrom

/-! ### What stores at given addresses keep -/

/-- Every plain byte that no store at an address of `bs` touches reads in t as in s. -/
def PlainKept (bs : List Word) (s t : State) : Prop :=
  ∀ a, isStorable a = true → (∀ b ∈ bs, touches b a = false) → (busRead a t).1 = (busRead a s).1

namespace PlainKept

variable {bs : List Word} {s t u : State}

theorem refl (s : State) : PlainKept bs s s := fun _ _ _ => rfl

/-- An update of the CPU's registers, cycle counter or fault record. -/
theorem cpu (h : PlainKept bs s t) (hu : u = withCpu u t := by rfl) : PlainKept bs s u := by
  intro a ha hbs
  rw [hu, busRead_withCpu]
  exact h a ha hbs

theorem update {ws : List Slot} (h : PlainKept bs s t) (hu : CpuUpdate ws t u) : PlainKept bs s u := h.cpu hu.outside

theorem spend (h : PlainKept bs s t) (n : Nat) : PlainKept bs s (spend n t) := h.update (.spend n t)

theorem read (h : PlainKept bs s t) (addr : Word) : PlainKept bs s (busRead addr t).2 := fun a ha hbs =>
  (busRead_plain_congr ha (busRead_ram addr t) (busRead_cart addr t)).trans (h a ha hbs)

theorem write (h : PlainKept bs s t) {addr : Word} (d : Byte) (haddr : addr ∈ bs) :
    PlainKept bs s (busWrite addr d t) := fun a ha hbs =>
  (busWrite_untouched d t ha (hbs addr haddr)).trans (h a ha hbs)

theorem readSource (h : PlainKept bs s t) (o : Source) : PlainKept bs s (readSource o t).2 := by
  cases o with
  | imm n => exact h
  | mem m => exact h.read _

theorem push (h : PlainKept bs s t) (v : Byte) (hsp : stackAddr t.sp ∈ bs) : PlainKept bs s (push v t) :=
  (h.write v hsp).update (.setSp (t.sp - 1) _)

theorem pushWord (h : PlainKept bs s t) (v : Word) (hsp : stackAddr t.sp ∈ bs) (hsp' : stackAddr (t.sp - 1) ∈ bs) :
    PlainKept bs s (pushWord v t) :=
  (h.push _ hsp).push _ hsp'

theorem readWord (h : PlainKept bs s t) (a : Word) : PlainKept bs s (readWord a t).2 := (h.read a).read (a + 1)

/-- Taking an exception stores three bytes on the stack and reads the vector (R564, R710). -/
theorem takeException (vec : Word) (b : Byte) (s : State) :
    PlainKept [stackAddr s.sp, stackAddr (s.sp - 1), stackAddr (s.sp - 2)] s (takeException vec b s) := by
  have hsp : (Machine.pushWord s.pc s).sp = s.sp - 2 := by
    rw [pushWord_eq]
    bv_omega
  exact (((((PlainKept.refl s).pushWord s.pc (by simp) (by simp)).push b (by simp [hsp])).update
    (.setI true _)).readWord vec).update (.setPc _ _)

end PlainKept

/-! ### The shapes of access -/

section
variable {bs : List Word} {s t u : State} {cyc : Nat}

theorem implied_plainKept {f : State → State} (hf : PlainKept bs s (f s)) (h : implied cyc f s = .next t) :
    PlainKept bs s t := by
  cases h
  exact hf.spend cyc

theorem implied_cpu_plainKept {f : State → State} (hf : f s = withCpu (f s) s) :
    implied cyc f s = .next t → PlainKept bs s t :=
  implied_plainKept ((PlainKept.refl s).cpu hf)

theorem implied_update_plainKept {ws : List Slot} {f : State → State} (hf : CpuUpdate ws s (f s)) :
    implied cyc f s = .next t → PlainKept bs s t :=
  implied_plainKept ((PlainKept.refl s).update hf)

theorem readWith_plainKept {o : Source} {f : Byte → State → State} (hf : ∀ m s, f m s = withCpu (f m s) s)
    (h : readWith cyc o f s = .next t) : PlainKept bs s t := by
  cases h
  exact (((PlainKept.refl s).readSource o).cpu (hf _ _)).spend _

/-- A store of an instruction that first updates the CPU. -/
theorem storeAt_plainKept {addr : Word} {v : Byte} (haddr : addr ∈ bs) (hu : u = withCpu u s)
    (h : storeAt cyc addr v u = .next t) : PlainKept bs s t := by
  cases h
  exact (((PlainKept.refl s).cpu hu).write v haddr).spend _

theorem modify_plainKept {m : MemForm} {op : Byte → State → Byte × State} {g : Byte → State → State}
    (haddr : (effAddr m s).addr ∈ bs) (hop : ∀ m s, (op m s).2 = withCpu (op m s).2 s)
    (hg : ∀ r s, g r s = withCpu (g r s) s) (h : modify cyc m op g s = .next t) : PlainKept bs s t := by
  cases h
  exact (((((PlainKept.refl s).read _).cpu (hop _ _)).write _ haddr).cpu (hg _ _)).spend _

theorem modifyA_plainKept {op : Byte → State → Byte × State} (hop : ∀ m s, (op m s).2 = withCpu (op m s).2 s)
    (h : modifyA cyc op s = .next t) : PlainKept bs s t := by
  cases h
  exact (((PlainKept.refl s).cpu (hop _ s)).update (.loadA _ _)).spend cyc

theorem branch_plainKept {cond : Bool} {d : Int} (h : branch cyc cond d s = .next t) : PlainKept bs s t := by
  cases cond <;> cases h
  · exact (PlainKept.refl s).spend cyc
  · exact ((PlainKept.refl s).update (.setPc _ s)).spend _

theorem shift_plainKept {f : Form} {op : Byte → State → Byte × State}
    (haddr : ∀ m, f = .operand (.mem m) → (effAddr m s).addr ∈ bs) (hop : ∀ m s, (op m s).2 = withCpu (op m s).2 s)
    (h : onShift f (fun m => modify cyc m op setZN s) (modifyA cyc op s) = some (.next t)) : PlainKept bs s t := by
  obtain ⟨m, hf, hm⟩ | ⟨-, hm⟩ := onShift_eq h
  · exact modify_plainKept (haddr m hf) hop (fun _ _ => rfl) hm.symm
  · exact modifyA_plainKept hop hm.symm

theorem effAddr_setSp (m : MemForm) (v : Byte) (s : State) : effAddr m { s with sp := v } = effAddr m s := by
  cases m with
  | izx | izy => simp only [effAddr, zeroPagePointer_eq]
  | _ => rfl

/-- TAS stores where its rule says in the state it starts in: SP is no part of the address (R620). -/
theorem runTas_plainKept {m : MemForm}
    (haddr : highStoreAddr s.cfg.shPageCross (s.a &&& s.x) (effAddr m s) ∈ bs) (h : runTas cyc m s = .next t) :
    PlainKept bs s t :=
  storeAt_plainKept (u := { s with sp := s.a &&& s.x }) (by rwa [effAddr_setSp]) rfl h

theorem runJmpAbs_plainKept {a : Word} (h : runJmpAbs cyc a s = .next t) : PlainKept bs s t := by
  cases h
  exact ((PlainKept.refl s).update (.setPc a s)).spend cyc

theorem runJmpInd_plainKept {p : Word} (h : runJmpInd cyc p s = .next t) : PlainKept bs s t := by
  cases h
  exact ((((PlainKept.refl s).read _).read _).update (.setPc _ _)).spend _

theorem runJsr_plainKept {a : Word} (hsp : stackAddr s.sp ∈ bs) (hsp' : stackAddr (s.sp - 1) ∈ bs)
    (h : runJsr cyc a s = .next t) : PlainKept bs s t := by
  cases h
  exact (((PlainKept.refl s).pushWord _ hsp hsp').update (.setPc a _)).spend cyc

theorem runBrk_plainKept (h : runBrk cyc s = .next t) :
    PlainKept [stackAddr s.sp, stackAddr (s.sp - 1), stackAddr (s.sp - 2)] s t := by
  cases h
  exact (PlainKept.takeException irqVector _ s).spend cyc

theorem runJam_plainKept {op : Byte} (h : runJam op s = .next t) : PlainKept bs s t := by
  cases h
  exact (PlainKept.refl s).update (.raiseFatal op s)

end

/-! ### Every instruction -/

section
variable {bs : List Word} {f : Form} {s t : State}

theorem onOperand_plainKept {k : Source → StepResult} (h : onOperand f k = some (.next t))
    (hk : ∀ o, k o = .next t → PlainKept bs s t) : PlainKept bs s t := by
  obtain ⟨o, -, ho⟩ := onOperand_eq h
  exact hk o ho.symm

theorem onMem_plainKept {k : MemForm → StepResult} (h : onMem f k = some (.next t))
    (hk : ∀ m, f = .operand (.mem m) → k m = .next t → PlainKept bs s t) : PlainKept bs s t := by
  obtain ⟨m, hf, hm⟩ := onMem_eq h
  exact hk m hf hm.symm

theorem onImplied_plainKept {k : StepResult} (h : onImplied f k = some (.next t)) (hk : k = .next t → PlainKept bs s t) :
    PlainKept bs s t :=
  hk (onImplied_eq h).2.symm

theorem onRelative_plainKept {k : Int → StepResult} (h : onRelative f k = some (.next t))
    (hk : ∀ d, k d = .next t → PlainKept bs s t) : PlainKept bs s t := by
  obtain ⟨d, -, hd⟩ := onRelative_eq h
  exact hk d hd.symm

end

section
variable {i : Instr} {s t : State}

theorem meaning_next {m : Mnemonic} (h : exec i s = .next t) (hi : i.mnemonic = m) :
    meaning m i.cycles i.opcode i.form s = some (.next t) := h ▸ meaning_eq s hi

/-- An instruction stores at `storedAddresses` only: its mnemonic's accesses, by shape (R320). -/
theorem exec_plainKept (h : exec i s = .next t) : ∀ {m}, i.mnemonic = m → PlainKept (storedAddresses i s) s t
  | .lda, hi | .ldx, hi | .ldy, hi | .lax, hi | .adc, hi | .sbc, hi | .and, hi | .ora, hi | .eor, hi | .ane, hi
  | .bit, hi | .cmp, hi | .cpx, hi | .cpy, hi | .anc, hi | .alr, hi | .arr, hi | .sbx, hi | .lxa, hi | .las, hi =>
    onOperand_plainKept (meaning_next h hi) (fun _ => readWith_plainKept fun _ _ => rfl)
  | .sta, hi | .stx, hi | .sty, hi | .sax, hi | .sha, hi | .shx, hi | .shy, hi =>
    onMem_plainKept (meaning_next h hi) (fun _ hf => storeAt_plainKept (by simp [storedAddresses, hi, hf]) rfl)
  | .tas, hi => onMem_plainKept (meaning_next h hi) (fun _ hf => runTas_plainKept (by simp [storedAddresses, hi, hf]))
  | .inc, hi | .dec, hi | .slo, hi | .rla, hi | .sre, hi | .rra, hi | .dcp, hi | .isc, hi =>
    onMem_plainKept (meaning_next h hi)
      (fun _ hf => modify_plainKept (by simp [storedAddresses, hi, hf]) (fun _ _ => rfl) (fun _ _ => rfl))
  | .asl, hi | .lsr, hi | .rol, hi | .ror, hi =>
    shift_plainKept (fun _ hf => by simp [storedAddresses, hi, hf]) (fun _ _ => rfl) (meaning_next h hi)
  | .bpl, hi | .bmi, hi | .bvc, hi | .bvs, hi | .bcc, hi | .bcs, hi | .bne, hi | .beq, hi =>
    onRelative_plainKept (meaning_next h hi) (fun _ => branch_plainKept)
  | .tax, hi | .tay, hi | .txa, hi | .tya, hi | .tsx, hi | .txs, hi | .inx, hi | .iny, hi | .dex, hi | .dey, hi
  | .clc, hi | .sec, hi | .cli, hi | .sei, hi | .cld, hi | .sed, hi | .clv, hi =>
    onImplied_plainKept (meaning_next h hi) (implied_cpu_plainKept rfl)
  | .pha, hi | .php, hi => onImplied_plainKept (meaning_next h hi)
      (implied_plainKept ((PlainKept.refl s).push _ (by simp [storedAddresses, hi])))
  | .pla, hi => onImplied_plainKept (meaning_next h hi)
      (implied_update_plainKept ((CpuUpdate.pull s).trans (.loadA _ _)))
  | .plp, hi => onImplied_plainKept (meaning_next h hi)
      (implied_update_plainKept ((CpuUpdate.pull s).trans (.pulledStatus _ _)))
  | .rts, hi => onImplied_plainKept (meaning_next h hi)
      (implied_update_plainKept ((CpuUpdate.pullWord s).trans (.setPc _ _)))
  | .rti, hi => onImplied_plainKept (meaning_next h hi) (implied_update_plainKept (.returnFromException s))
  | .jam, hi => onImplied_plainKept (meaning_next h hi) runJam_plainKept
  | .jmp, hi => by
    obtain ⟨a, -, he⟩ | ⟨a, -, he⟩ := exec_jmp s hi
    · exact runJmpAbs_plainKept (he.symm.trans h)
    · exact runJmpInd_plainKept (he.symm.trans h)
  | .jsr, hi => by
    obtain ⟨a, -, he⟩ := exec_jsr s hi
    exact runJsr_plainKept (by simp [storedAddresses, hi]) (by simp [storedAddresses, hi]) (he.symm.trans h)
  | .brk, hi => by
    obtain ⟨sig, hf, he⟩ := exec_brk s hi
    simpa [storedAddresses, hi, hf] using runBrk_plainKept (he.symm.trans h)
  | .nop, hi => by
    obtain ⟨-, he⟩ | ⟨o, -, he⟩ := exec_nop s hi
    · exact implied_cpu_plainKept rfl (he.symm.trans h)
    · exact readWith_plainKept (fun _ _ => rfl) (he.symm.trans h)

end

/-- Settles O28: an instruction makes its stores at `storedAddresses`, and no other access changes a plain byte. -/
theorem memoryFrame : Obligations.MemoryFrame := fun _ _ _ h => exec_plainKept h rfl

end Sys2Proof.Machine
end

section
/-! PROOFS. Loads, stores, transfers and stack instructions (R401-R416): each shape of bus access gives the shape of its
statement once, so that an obligation gives for each mnemonic its opcode map, its `exec_` lemma and what its rule says of
the registers and flags. -/

namespace Sys2Proof.Machine

/-- s with A, X, Y, SP and P of c. -/
def withRegisters (c s : State) : State := { s with a := c.a, x := c.x, y := c.y, sp := c.sp, p := c.p }

@[simp] theorem withRegisters_pc (c s : State) : (withRegisters c s).pc = s.pc := rfl

@[simp] theorem withRegisters_cycles (c s : State) : (withRegisters c s).cycles = s.cycles := rfl

theorem sameOutside_spend_withRegisters (n : Nat) (c s : State) : SameOutside s (spend n (withRegisters c s)) :=
  SameOutside.refl s

/-! ### Reads, writes and register instructions -/

/-- To show which forms a mnemonic has, walk the 256 rows of the map once: faster than `hasForms_of`, which looks each row
up by its opcode value. -/
theorem hasForms_of_rows {m : Mnemonic} {forms : List (Byte × Mode)}
    (h : ∀ r ∈ opcodeRows, (r.fill 0 0).mnemonic = m ↔ ((r.fill 0 0).opcode, modeOf (r.fill 0 0).form) ∈ forms) :
    HasForms m forms :=
  hasForms_of fun b => by
    have hrow := rowOf_opcode ((decodeRow b).fill 0 0)
    rw [opcode_fill_zero] at hrow
    simpa only [hrow, opcode_fill_zero] using h (decodeRow b) (List.get_mem ..)

section
variable {m : Mnemonic} {forms : List (Byte × Mode)}

/-- A read-class instruction whose rule f writes registers and flags only; `post` speaks of those. -/
theorem readsWith_of {f : Byte → State → State} {post : Byte → State → State → Prop} (hforms : HasForms m forms)
    (hexec : ∀ (i : Instr) s, i.mnemonic = m → ∃ o, i.form = .operand o ∧ exec i s = readWith i.cycles o f s)
    (hf : ∀ r s, f r s = withRegisters (f r s) s)
    (hpost : ∀ r n s u, SameRegisters s u → u.p = s.p → post r s (spend n (f r u))) : ReadsWith m forms post := by
  refine ⟨hforms, fun i s hi => ?_⟩
  obtain ⟨o, ho, he⟩ := hexec i s hi
  have hregs : SameRegisters s (readSource o s).2 := by simp [SameRegisters]
  refine ⟨o, _, ho, he, ?_, ?_, ?_, hpost _ _ s _ hregs (readSource_p o s)⟩ <;> rw [hf]
  · simp
  · simp [Nat.add_assoc]
  · exact sameOutside_spend_withRegisters ..

/-- A write-class instruction: the bus write leaves the CPU alone, and the stall is part of the cycles. -/
theorem writesWith_of {value : State → Byte} (hforms : HasForms m forms)
    (hexec : ∀ (i : Instr) s, i.mnemonic = m →
      ∃ e, i.form = .operand (.mem e) ∧ exec i s = writeTo i.cycles e (value s) s) : WritesWith m forms value := by
  refine ⟨hforms, fun i s hi => ?_⟩
  obtain ⟨e, ho, he⟩ := hexec i s hi
  refine ⟨e, _, ho, he, by simp [SameRegisters], by simp, by simp, ?_, SameOutside.refl _⟩
  simp [writeCycles_eq, dmaStall, Nat.add_assoc]

/-- A register instruction whose rule f writes registers and flags only. -/
theorem impliedWith_of {opcode : Byte} {f : State → State} {post : State → State → Prop}
    (hforms : HasForms m [(opcode, .imp)])
    (hexec : ∀ (i : Instr) s, i.mnemonic = m → i.form = .implied ∧ exec i s = implied i.cycles f s)
    (hf : ∀ s, f s = withRegisters (f s) s) (hpost : ∀ n s, post s (spend n (f s))) : ImpliedWith m opcode post := by
  refine ⟨hforms, fun i hi => (hexec i State.reset hi).1, fun i s hi _ => ⟨_, (hexec i s hi).2, ?_, ?_, ?_, hpost _ s⟩⟩ <;>
    rw [hf]
  · simp
  · simp
  · exact sameOutside_spend_withRegisters ..

end

/-- Settles O5: each load is a read whose rule is `loadA`, `loadX` or `loadY`. -/
theorem loads : Obligations.Loads := by
  refine ⟨readsWith_of (f := loadA) (hasForms_of_rows (by decide +kernel)) (fun _ s => exec_lda s) (fun _ _ => rfl) ?_,
    readsWith_of (f := loadX) (hasForms_of_rows (by decide +kernel)) (fun _ s => exec_ldx s) (fun _ _ => rfl) ?_,
    readsWith_of (f := loadY) (hasForms_of_rows (by decide +kernel)) (fun _ s => exec_ldy s) (fun _ _ => rfl) ?_⟩
  all_goals
    rintro m n s u ⟨ha, hx, hy, hsp⟩ hp
    rw [← hp]
  · exact ⟨rfl, ⟨hx, hy, hsp⟩, flagsAfter_setZN m u⟩
  · exact ⟨rfl, ha, hy, hsp, flagsAfter_setZN m u⟩
  · exact ⟨rfl, ha, hx, hsp, flagsAfter_setZN m u⟩

/-- Settles O6: each store is one bus write of its register. -/
theorem stores : Obligations.Stores :=
  ⟨writesWith_of (hasForms_of_rows (by decide +kernel)) (fun _ s => exec_sta s),
    writesWith_of (hasForms_of_rows (by decide +kernel)) (fun _ s => exec_stx s),
    writesWith_of (hasForms_of_rows (by decide +kernel)) (fun _ s => exec_sty s)⟩

/-- Settles O7: each transfer but TXS loads a register with another; TXS writes SP alone. -/
theorem transfers : Obligations.Transfers :=
  ⟨impliedWith_of (hasForms_of_rows (by decide +kernel)) (fun _ s => exec_tax s) (fun _ => rfl)
      fun _ s => ⟨rfl, rfl, rfl, rfl, flagsAfter_setZN s.a s⟩,
    impliedWith_of (hasForms_of_rows (by decide +kernel)) (fun _ s => exec_tay s) (fun _ => rfl)
      fun _ s => ⟨rfl, rfl, rfl, rfl, flagsAfter_setZN s.a s⟩,
    impliedWith_of (hasForms_of_rows (by decide +kernel)) (fun _ s => exec_txa s) (fun _ => rfl)
      fun _ s => ⟨rfl, ⟨rfl, rfl, rfl⟩, flagsAfter_setZN s.x s⟩,
    impliedWith_of (hasForms_of_rows (by decide +kernel)) (fun _ s => exec_tya s) (fun _ => rfl)
      fun _ s => ⟨rfl, ⟨rfl, rfl, rfl⟩, flagsAfter_setZN s.y s⟩,
    impliedWith_of (hasForms_of_rows (by decide +kernel)) (fun _ s => exec_tsx s) (fun _ => rfl)
      fun _ s => ⟨rfl, rfl, rfl, rfl, flagsAfter_setZN s.sp s⟩,
    impliedWith_of (hasForms_of_rows (by decide +kernel)) (fun _ s => exec_txs s) (fun _ => rfl)
      fun _ _ => ⟨rfl, rfl, rfl, rfl, rfl⟩⟩

/-! ### The stack -/

/-- The address of the k-th pull wraps in page 1 as the pointer does (R206). -/
theorem stacked_eq (s : State) (k : Nat) :
    stacked s k = Cells.read s.ram (0x100 + (s.sp + BitVec.ofNat 8 k).toNat) := by
  simp [stacked, BitVec.toNat_add]

/-- Two stack pointers less than 256 pushes apart are different. -/
theorem sub_ofNat_inj {sp : Byte} {j k : Nat} (hj : j < 256) (hk : k < 256)
    (h : (sp - BitVec.ofNat 8 j).toNat = (sp - BitVec.ofNat 8 k).toNat) : j = k := by
  simp only [BitVec.toNat_sub, BitVec.toNat_ofNat] at h
  omega

theorem pushed_nil (s : State) : Pushed [] s s := ⟨by simp, by simp, fun _ _ => rfl⟩

/-- One push after others lies below them, as long as they do not fill the page (R15). -/
theorem Pushed.push {bytes : List Byte} {s t : State} (h : Pushed bytes s t) (hlen : bytes.length < 256) (v : Byte) :
    Pushed (bytes ++ [v]) s (push v t) := by
  obtain ⟨hsp, hread, hframe⟩ := h
  rw [push_eq, hsp]
  refine ⟨?_, fun k hk => ?_, fun n hn => ?_⟩
  · simp only [List.length_append, List.length_singleton, BitVec.ofNat_add]
    exact BitVec.sub_sub ..
  · rw [List.length_append, List.length_singleton] at hk
    obtain hk' | rfl : k < bytes.length ∨ k = bytes.length := by omega
    · rw [List.getElem_append_left hk', ← hread k hk', read_write_other]
      intro hEq
      have := sub_ofNat_inj hlen (by omega) (Nat.add_left_cancel hEq)
      omega
    · simp
  · have hlast := hn bytes.length (by simp)
    rw [read_write_other _ _ hlast.symm]
    exact hframe n fun k hk => hn k (by simp; omega)

/-- One push (R15). -/
theorem pushed_push (v : Byte) (s : State) : Pushed [v] s (push v s) := (pushed_nil s).push (by decide) v

/-- A pull gives the first byte above the pointer (R15). -/
theorem pull_stacked (s : State) : pull s = (stacked s 1, { s with sp := s.sp + 1 }) := by
  rw [pull_eq, stacked_eq]
  rfl

/-- A push and 3 cycles change nothing but RAM, SP and the cycle counter (R413, R414). -/
theorem exec_of_push {i : Instr} {s : State} {v : Byte} (he : exec i s = .next (spend 3 (push v s))) :
    ∃ t, exec i s = .next t ∧ Pushed [v] s t ∧ t = { s with ram := t.ram, sp := t.sp, cycles := s.cycles + 3 } :=
  ⟨_, he, pushed_push v s, by rw [push_eq]; rfl⟩

/-- The base cycles of an implied instruction, from its mnemonic (R330). -/
theorem cycles_of_implied {i : Instr} {m : Mnemonic} (hi : i.mnemonic = m) (hform : i.form = .implied)
    (hm : m ≠ .jam := by decide) : i.cycles = baseCycles m .imp := by
  rw [cycles_eq (hi ▸ hm), hi, hform]
  rfl

/-- Settles O8: PHA and PHP are one push, PLA and PLP one pull. -/
theorem stackInstructions : Obligations.StackInstructions := by
  refine ⟨hasForms_of_rows (by decide +kernel), hasForms_of_rows (by decide +kernel),
    hasForms_of_rows (by decide +kernel), hasForms_of_rows (by decide +kernel),
    fun i s => ⟨fun hi => ?pha, fun hi => ?php, fun hi => ?pla, fun hi => ?plp⟩⟩
  case pha =>
    obtain ⟨hform, he⟩ := exec_pha s hi
    exact exec_of_push (by rw [he, cycles_of_implied hi hform]; rfl)
  case php =>
    obtain ⟨hform, he⟩ := exec_php s hi
    obtain ⟨t, ht, hpushed, hframe⟩ := exec_of_push (i := i) (s := s) (v := pushedStatus s.p)
      (by rw [he, cycles_of_implied hi hform]; rfl)
    exact ⟨t, pushedStatus s.p, ht, hpushed, flagsAfter_pushedStatus s.p, hframe⟩
  case pla =>
    obtain ⟨hform, he⟩ := exec_pla s hi
    rw [he, cycles_of_implied hi hform, runPla, implied, pull_stacked]
    exact ⟨_, rfl, flagsAfter_setZN (stacked s 1) s, rfl⟩
  case plp =>
    obtain ⟨hform, he⟩ := exec_plp s hi
    rw [he, cycles_of_implied hi hform, runPlp, implied, pull_stacked]
    exact ⟨_, rfl, flagsAfter_pulledStatus (stacked s 1), rfl⟩

end Sys2Proof.Machine
end

section
/-! PROOFS. Arithmetic and logic (R446-R465): the sum, the difference and the comparison as integers, the shape of a
read-modify-write access, then each mnemonic from its opcode map, its `exec_` lemma and what its rule says of the registers
and flags. -/

namespace Sys2Proof.Machine

/-! ### Reads and modifications around a register update -/

/-- A bus read leaves the registers as they were. -/
theorem withRegisters_busRead (addr : Word) (s : State) :
    withRegisters s (busRead addr s).2 = (busRead addr s).2 := by
  rw [busRead_frame]
  rfl

/-- A bus write neither reads nor changes the registers. -/
theorem busWrite_withRegisters (addr : Word) (d : Byte) (c s : State) :
    busWrite addr d (withRegisters c s) = withRegisters c (busWrite addr d s) := by
  rw [show withRegisters c s = withCpu (withRegisters c s) s from rfl, busWrite_withCpu, busWrite_frame]
  rfl

section
variable {m : Mnemonic} {op : Byte → State → Byte × State} {g : Byte → State → State}

/-- A read-class instruction whose rule f reads and writes registers and flags only: f runs on the registers of the state
before the read. -/
theorem readsWith_of_registers {forms : List (Byte × Mode)} {f : Byte → State → State}
    {post : Byte → State → State → Prop} (hforms : HasForms m forms)
    (hexec : ∀ (i : Instr) s, i.mnemonic = m → ∃ o, i.form = .operand o ∧ exec i s = readWith i.cycles o f s)
    (hf : ∀ r s, f r s = withRegisters (f r s) s) (hpost : ∀ r n s u, post r s (spend n (f r (withRegisters s u)))) :
    ReadsWith m forms post := by
  refine readsWith_of hforms hexec hf fun r n s u ⟨ha, hx, hy, hsp⟩ hp => ?_
  have hu : withRegisters s u = u := by rw [withRegisters, ← ha, ← hx, ← hy, ← hsp, ← hp]
  simpa only [hu] using hpost r n s u

/-- A read-modify-write access whose op reads and writes registers and flags only: op runs on the registers of the state
before the read, and g after the write (R320, R600). -/
theorem modify_next (hop : ∀ v s u, op v (withRegisters s u) = ((op v s).1, withRegisters (op v s).2 u)) (cyc : Nat)
    (e : MemForm) (s : State) :
    let addr := (effAddr e s).addr
    let res := op (busRead addr s).1 s
    modify cyc e op g s = .next (spend (writeCycles cyc addr s.cycles)
      (g res.1 (withRegisters res.2 (busWrite addr res.1 (busRead addr s).2)))) := by
  intro addr res
  have hread := hop (busRead addr s).1 s (busRead addr s).2
  rw [withRegisters_busRead] at hread
  simp only [modify, addr, hread, busWrite_withRegisters, res]

/-- The memory forms of a read-modify-write instruction whose op and g leave everything outside the registers alone. -/
theorem modifiesWith_of {result : Nat → Nat → Nat} {post : Byte → Byte → State → State → Prop}
    (hmeaning : ∀ c b e s, meaning m c b (.operand (.mem e)) s = some (modify c e op g s))
    (hop : ∀ v s u, op v (withRegisters s u) = ((op v s).1, withRegisters (op v s).2 u))
    (hg : ∀ r s, g r s = withRegisters (g r s) s)
    (hresult : ∀ v s, (op v s).1 = BitVec.ofNat 8 (result v.toNat (bit s.c)))
    (hindex : ∀ v n s u, SameIndex s (spend n (g (op v s).1 (withRegisters (op v s).2 u))))
    (hpost : ∀ v n s u, post v (op v s).1 s (spend n (g (op v s).1 (withRegisters (op v s).2 u)))) :
    ModifiesWith m result post := by
  intro i e s hi hform read r
  have hexec : exec i s = modify i.cycles e op g s := by
    have h := meaning_eq s hi
    rw [hform, hmeaning] at h
    exact (Option.some.inj h).symm
  have hr : r = (op read.1 s).1 := (hresult read.1 s).symm
  rw [hexec, modify_next hop, hr]
  obtain ⟨hx, hy, hsp⟩ := hindex read.1 _ s _
  refine ⟨_, rfl, hx, hy, hsp, ?pc, ?cycles, ?outside, hpost read.1 _ s _⟩ <;> rw [hg]
  case pc => simp
  case cycles => simp [writeCycles_eq, dmaStall, Nat.add_assoc]
  case outside => exact SameOutside.refl _

end

/-! ### Sums, differences and comparisons as integers -/

theorem bit_le_one (b : Bool) : bit b ≤ 1 := by cases b <;> decide

/-- The complement SBC adds, as a signed byte (R452). -/
theorem xor_255_toInt (m : Byte) : (m ^^^ 0xFF).toInt = -1 - m.toInt := by
  have := m.isLt
  rw [BitVec.toInt_eq_toNat_cond, BitVec.toInt_eq_toNat_cond, xor_255_toNat]
  split_ifs <;> omega

/-- The overflow bit of a sum, set where both operands have the sign the result has not, says that the signed sum leaves
the range of a byte (R447). -/
theorem overflow_bit_eq (a m : Byte) {c : Nat} (hc : c ≤ 1) :
    ((a ^^^ BitVec.ofNat 8 (a.toNat + m.toNat + c)) &&& (m ^^^ BitVec.ofNat 8 (a.toNat + m.toNat + c))).getLsbD 7 =
      signedOverflow a m c := by
  have ha := a.isLt
  have hm := m.isLt
  rw [BitVec.getLsbD_and, BitVec.getLsbD_xor, BitVec.getLsbD_xor, Bool.eq_iff_iff]
  simp only [getLsbD_seven_eq, BitVec.toNat_ofNat, signedOverflow, BitVec.toInt_eq_toNat_cond, Bool.and_eq_true,
    bne_iff_ne, ne_eq, decide_eq_decide, decide_eq_true_eq]
  split_ifs <;> omega

/-- `AddCore` as an integer sum (R447). -/
theorem addCore_addsInto (m : Byte) (s : State) : AddsInto m (bit s.c) s (addCore m s) := by
  refine ⟨rfl, ⟨rfl, rfl, rfl⟩, ?_⟩
  rw [← overflow_bit_eq s.a m (bit_le_one s.c)]
  refine FlagsAfter.congr (FlagsAfter.thenSetZN
    (((FlagsAfter.refl s.p).thenSetBit .c _).thenSetBit .v _) (addCore m s).a) ?_
  rintro (_ | _) <;> rfl

/-- Adding the complement of m and C borrows where C = 0 (R452). -/
theorem AddsInto.subtractsFrom {m : Byte} {c : Nat} {s t : State} (hc : c ≤ 1) (h : AddsInto (m ^^^ 0xFF) c s t) :
    SubtractsFrom m (1 - c) s t := by
  obtain ⟨ha, hindex, hflags⟩ := h
  have hm := m.isLt
  have hsa := s.a.isLt
  refine ⟨?difference, hindex, ?flags⟩
  case difference =>
    rw [ha, xor_255_toNat]
    apply BitVec.eq_of_toNat_eq
    rw [BitVec.toNat_ofInt, BitVec.toNat_ofNat]
    omega
  case flags =>
    have hcarry : 256 ≤ s.a.toNat + (m ^^^ 0xFF).toNat + c ↔ m.toNat + (1 - c) ≤ s.a.toNat := by
      rw [xor_255_toNat]
      omega
    have hsum : s.a.toInt + (m ^^^ 0xFF).toInt + c = s.a.toInt - m.toInt - (1 - c : Nat) := by
      rw [xor_255_toInt]
      omega
    simpa only [signedOverflow, signedUnderflow, hsum, hcarry] using hflags

/-- `AddCore` of the complement as an integer difference (R452). -/
theorem subCore_subtractsFrom (m : Byte) (s : State) : SubtractsFrom m (1 - bit s.c) s (subCore m s) :=
  (addCore_addsInto (m ^^^ 0xFF) s).subtractsFrom (bit_le_one s.c)

/-- `Compare` as an unsigned comparison and a difference modulo 256 (R448). -/
theorem compare_compared (reg m : Byte) (s : State) : Compared reg m s (compare reg m s) := by
  rw [Compared, sub_ofInt]
  refine FlagsAfter.congr (FlagsAfter.thenSetZN ((FlagsAfter.refl s.p).thenSetBit .c _) (reg - m)) ?_
  rintro (_ | _) <;> rfl

/-- BIT (R456). -/
theorem flagsAfter_testBits (m : Byte) (s : State) : FlagsAfter s.p (testBits m s).p
    [(.z, decide (s.a &&& m = 0)), (.n, m.getLsbD 7), (.v, m.getLsbD 6)] := by
  refine FlagsAfter.congr (((FlagsAfter.refl s.p).thenSetBit .z _).thenSetBit .n _ |>.thenSetBit .v _) ?_
  rintro (_ | _) <;> rfl

/-! ### The obligations -/

/-- Settles O9: ADC is `addCore` and SBC `subCore`, which read C and no other flag. -/
theorem addSubtract : Obligations.AddSubtract :=
  ⟨readsWith_of_registers (hasForms_of_rows (by decide +kernel)) (fun _ s => exec_adc s) (fun _ _ => rfl)
      fun m _ s _ => addCore_addsInto m s,
    readsWith_of_registers (hasForms_of_rows (by decide +kernel)) (fun _ s => exec_sbc s) (fun _ _ => rfl)
      fun m _ s _ => subCore_subtractsFrom m s⟩

/-- Settles O10: AND, ORA and EOR load A with the combined byte, and BIT is `testBits`. -/
theorem logicAndBit : Obligations.LogicAndBit :=
  ⟨readsWith_of_registers (hasForms_of_rows (by decide +kernel)) (fun _ s => exec_and s) (fun _ _ => rfl)
      fun m _ s _ => ⟨fun _ => BitVec.getLsbD_and, ⟨rfl, rfl, rfl⟩, flagsAfter_setZN (s.a &&& m) s⟩,
    readsWith_of_registers (hasForms_of_rows (by decide +kernel)) (fun _ s => exec_ora s) (fun _ _ => rfl)
      fun m _ s _ => ⟨fun _ => BitVec.getLsbD_or, ⟨rfl, rfl, rfl⟩, flagsAfter_setZN (s.a ||| m) s⟩,
    readsWith_of_registers (hasForms_of_rows (by decide +kernel)) (fun _ s => exec_eor s) (fun _ _ => rfl)
      fun m _ s _ => ⟨fun _ => BitVec.getLsbD_xor, ⟨rfl, rfl, rfl⟩, flagsAfter_setZN (s.a ^^^ m) s⟩,
    readsWith_of_registers (hasForms_of_rows (by decide +kernel)) (fun _ s => exec_bit s) (fun _ _ => rfl)
      fun m _ s _ => ⟨SameRegisters.refl s, flagsAfter_testBits m s⟩⟩

/-- Settles O11: each comparison is `compare` of its register. -/
theorem compares : Obligations.Compares :=
  ⟨readsWith_of_registers (hasForms_of_rows (by decide +kernel)) (fun _ s => exec_cmp s) (fun _ _ => rfl)
      fun m _ s _ => ⟨SameRegisters.refl s, compare_compared s.a m s⟩,
    readsWith_of_registers (hasForms_of_rows (by decide +kernel)) (fun _ s => exec_cpx s) (fun _ _ => rfl)
      fun m _ s _ => ⟨SameRegisters.refl s, compare_compared s.x m s⟩,
    readsWith_of_registers (hasForms_of_rows (by decide +kernel)) (fun _ s => exec_cpy s) (fun _ _ => rfl)
      fun m _ s _ => ⟨SameRegisters.refl s, compare_compared s.y m s⟩⟩

/-- Settles O12: INC and DEC modify by `incOp` and `decOp`, then set Z and N. -/
theorem incrementMemory : Obligations.IncrementMemory :=
  ⟨hasForms_of_rows (by decide +kernel), hasForms_of_rows (by decide +kernel),
    modifiesWith_of (op := incOp) (g := setZN) (fun _ _ _ _ => rfl) (fun _ _ _ => rfl) (fun _ _ => rfl)
      (fun v _ => inc_eq v) (fun _ _ _ _ => ⟨rfl, rfl, rfl⟩) fun v _ s _ => ⟨rfl, flagsAfter_setZN (v + 1) s⟩,
    modifiesWith_of (op := decOp) (g := setZN) (fun _ _ _ _ => rfl) (fun _ _ _ => rfl) (fun _ _ => rfl)
      (fun v _ => dec_eq v) (fun _ _ _ _ => ⟨rfl, rfl, rfl⟩) fun v _ s _ => ⟨rfl, flagsAfter_setZN (v - 1) s⟩⟩

/-- Settles O13: each loads its register with the byte one higher or lower. -/
theorem incrementRegisters : Obligations.IncrementRegisters :=
  ⟨impliedWith_of (hasForms_of_rows (by decide +kernel)) (fun _ s => exec_inx s) (fun _ => rfl)
      fun _ s => ⟨inc_eq s.x, rfl, rfl, rfl, flagsAfter_setZN (s.x + 1) s⟩,
    impliedWith_of (hasForms_of_rows (by decide +kernel)) (fun _ s => exec_iny s) (fun _ => rfl)
      fun _ s => ⟨inc_eq s.y, rfl, rfl, rfl, flagsAfter_setZN (s.y + 1) s⟩,
    impliedWith_of (hasForms_of_rows (by decide +kernel)) (fun _ s => exec_dex s) (fun _ => rfl)
      fun _ s => ⟨dec_eq s.x, rfl, rfl, rfl, flagsAfter_setZN (s.x - 1) s⟩,
    impliedWith_of (hasForms_of_rows (by decide +kernel)) (fun _ s => exec_dey s) (fun _ => rfl)
      fun _ s => ⟨dec_eq s.y, rfl, rfl, rfl, flagsAfter_setZN (s.y - 1) s⟩⟩

end Sys2Proof.Machine
end

section
/-! PROOFS. Shifts and rotates (R500-R504): what each operation gives as a number, then the accumulator form and the
memory forms of a shift from its operation alone. -/

namespace Sys2Proof.Machine

/-! ### The operations in numbers -/

theorem shlOp_eq (v : Byte) (s : State) :
    shlOp v s = (BitVec.ofNat 8 (2 * v.toNat), setC (decide (128 ≤ v.toNat)) s) := by
  rw [shlOp, shl_eq, getLsbD_seven_eq]

theorem shrOp_eq (v : Byte) (s : State) :
    shrOp v s = (BitVec.ofNat 8 (v.toNat / 2), setC (decide (v.toNat % 2 = 1)) s) := by
  rw [shrOp, shr_eq, getLsbD_zero_eq]

theorem rolOp_eq (v : Byte) (s : State) :
    rolOp v s = (BitVec.ofNat 8 (2 * v.toNat + bit s.c), setC (decide (128 ≤ v.toNat)) s) := by
  rw [rolOp, rol_eq, getLsbD_seven_eq]

theorem rorOp_eq (v : Byte) (s : State) :
    rorOp v s = (BitVec.ofNat 8 (v.toNat / 2 + 128 * bit s.c), setC (decide (v.toNat % 2 = 1)) s) := by
  rw [rorOp, ror_eq, getLsbD_zero_eq]

/-! ### A shift from its operation -/

/-- C, then Z and N of the result (R500). -/
theorem flagsAfter_setC_setZN (b : Bool) (r : Byte) (s : State) :
    FlagsAfter s.p (setZN r (setC b s)).p ((.c, b) :: zn r) := by
  refine FlagsAfter.congr (FlagsAfter.thenSetZN ((FlagsAfter.refl s.p).thenSetBit .c b) r) ?_
  rintro (_ | _) <;> rfl

/-- A shift whose operation gives `result` of the byte and the old carry, and writes `carry` of the byte to C. -/
theorem shiftsWith_of {m : Mnemonic} {forms : List (Byte × Mode)} {op : Byte → State → Byte × State}
    {result : Nat → Nat → Nat} {carry : Nat → Bool} (hforms : HasForms m forms)
    (hmeaning : ∀ c b f s, meaning m c b f s = onShift f (fun e => modify c e op setZN s) (modifyA c op s))
    (hop : ∀ v s, op v s = (BitVec.ofNat 8 (result v.toNat (bit s.c)), setC (carry v.toNat) s)) :
    ShiftsWith m forms result carry := by
  have hexec : ∀ (i : Instr) s, i.mnemonic = m →
      onShift i.form (fun e => modify i.cycles e op setZN s) (modifyA i.cycles op s) = some (exec i s) :=
    fun i s hi => hmeaning .. ▸ meaning_eq s hi
  refine ⟨hforms, fun i hi => ?modes, fun i s hi hform => ?accumulator, ?memory⟩
  case modes =>
    obtain ⟨e, hform, -⟩ | ⟨hform, -⟩ := onShift_eq (hexec i State.reset hi)
    · exact .inr ⟨e, hform⟩
    · exact .inl hform
  case accumulator =>
    have he := hexec i s hi
    rw [hform] at he
    refine ⟨_, (Option.some.inj he).symm, ?_⟩
    rw [hop]
    exact ⟨rfl, rfl, SameOutside.refl s, rfl, ⟨rfl, rfl, rfl⟩, flagsAfter_setC_setZN _ _ s⟩
  case memory =>
    refine modifiesWith_of (fun c b e s => hmeaning c b (.operand (.mem e)) s) (fun v s u => ?registers)
      (fun _ _ => rfl) (fun v s => by rw [hop]) (fun v n s u => ?index) (fun v n s u => ?flags)
    case registers =>
      rw [hop, hop]
      rfl
    all_goals rw [hop]
    case index => exact ⟨rfl, rfl, rfl⟩
    case flags => exact ⟨rfl, flagsAfter_setC_setZN _ _ s⟩

/-- Settles O14: each shift runs its operation, `shlOp`, `shrOp`, `rolOp` or `rorOp`, on A or on a byte of memory. -/
theorem shifts : Obligations.Shifts :=
  ⟨shiftsWith_of (hasForms_of_rows (by decide +kernel)) (fun _ _ _ _ => rfl) shlOp_eq,
    shiftsWith_of (hasForms_of_rows (by decide +kernel)) (fun _ _ _ _ => rfl) shrOp_eq,
    shiftsWith_of (hasForms_of_rows (by decide +kernel)) (fun _ _ _ _ => rfl) rolOp_eq,
    shiftsWith_of (hasForms_of_rows (by decide +kernel)) (fun _ _ _ _ => rfl) rorOp_eq⟩

end Sys2Proof.Machine
end

section
/-! PROOFS. Control transfers, flag instructions and NOPs (R550-R573, R621-R623): targets and pointers as numbers, words
and exceptions on the stack, then each mnemonic from its opcode map, its `exec_` lemma and the lemma on its shape. -/

namespace Sys2Proof.Machine

/-- The base cycles of an instruction, from its mnemonic and form (R330). -/
theorem cycles_of_form {i : Instr} {m : Mnemonic} {f : Form} (hi : i.mnemonic = m) (hform : i.form = f)
    (hm : m ≠ .jam := by decide) : i.cycles = baseCycles m (modeOf f) := by
  rw [cycles_eq (hi ▸ hm), hi, hform]

/-! ### Branches -/

/-- The displacement is signed and added modulo 65536 (R308). -/
theorem branchTarget_toNat (d : Int) (pc : Word) : ((branchTarget d pc).toNat : Int) = (pc.toNat + d) % 65536 := by
  simp only [branchTarget, BitVec.toNat_add, BitVec.toNat_ofInt]
  omega

/-- Two addresses in the same page (R332). -/
theorem highByte_eq_iff {a b : Word} : highByte a = highByte b ↔ a.toNat / 256 = b.toNat / 256 := by
  rw [← BitVec.toNat_inj, highByte_toNat, highByte_toNat]

/-- A branch moves PC and spends cycles, and nothing else (R550, R332). -/
theorem branchesWhen_of {m : Mnemonic} {opcode : Byte} {cond : State → Bool} (hforms : HasForms m [(opcode, .rel)])
    (hexec : ∀ (i : Instr) s, i.mnemonic = m → ∃ d, i.form = .relative d ∧ exec i s = branch i.cycles (cond s) d s)
    (hm : m ≠ .jam := by decide) : BranchesWhen m opcode cond := by
  refine ⟨hforms, fun i s hi => ?_⟩
  obtain ⟨d, hform, he⟩ := hexec i s hi
  have hcycles : i.cycles = 2 := cycles_of_form hi hform hm
  rw [he, hcycles, branch]
  cases cond s with
  | false => exact ⟨d, _, hform, rfl, SameRegisters.refl s, rfl, SameOutside.refl s, rfl, rfl⟩
  | true =>
    refine ⟨d, _, hform, rfl, SameRegisters.refl s, rfl, SameOutside.refl s, branchTarget_toNat d s.pc, ?_⟩
    simp only [spend_cycles, spend_pc, highByte_eq_iff]
    split <;> rfl

/-- Settles O15: each branch is `branch` on its flag. -/
theorem branches : Obligations.Branches :=
  ⟨branchesWhen_of (hasForms_of_rows (by decide +kernel)) fun _ s => exec_bpl s,
    branchesWhen_of (hasForms_of_rows (by decide +kernel)) fun _ s => exec_bmi s,
    branchesWhen_of (hasForms_of_rows (by decide +kernel)) fun _ s => exec_bvc s,
    branchesWhen_of (hasForms_of_rows (by decide +kernel)) fun _ s => exec_bvs s,
    branchesWhen_of (hasForms_of_rows (by decide +kernel)) fun _ s => exec_bcc s,
    branchesWhen_of (hasForms_of_rows (by decide +kernel)) fun _ s => exec_bcs s,
    branchesWhen_of (hasForms_of_rows (by decide +kernel)) fun _ s => exec_bne s,
    branchesWhen_of (hasForms_of_rows (by decide +kernel)) fun _ s => exec_beq s⟩

/-! ### Jumps -/

theorem lowByte_toNat (a : Word) : (lowByte a).toNat = a.toNat % 256 := BitVec.toNat_setWidth ..

/-- The second byte of an indirect pointer wraps in its page (R311). -/
theorem pageSuccessor_toNat (p : Word) :
    (pageSuccessor p).toNat = p.toNat / 256 * 256 + (p.toNat + 1) % 256 := by
  rw [pageSuccessor, hiLo_toNat, highByte_toNat, BitVec.toNat_add, lowByte_toNat]
  simp [Nat.mul_comm]

/-- JMP indirect makes its two pointer reads, and changes nothing else but PC and the cycle counter (R560). -/
theorem runJmpInd_next (cyc : Nat) (p : Word) (s : State) :
    let lo := busRead p s
    let hi := busRead (pageSuccessor p) lo.2
    ∃ t, runJmpInd cyc p s = .next t ∧ t.pc.toNat = 256 * hi.1.toNat + lo.1.toNat ∧ t.cycles = s.cycles + cyc ∧
      SameRegisters s t ∧ t.p = s.p ∧ SameOutside hi.2 t :=
  ⟨_, rfl, hiLo_toNat .., by simp, by simp [SameRegisters], by simp, SameOutside.refl _⟩

/-- Settles O16: JMP absolute is `runJmpAbs`, and JMP indirect reads at its pointer and at `pageSuccessor` of it. -/
theorem jumps : Obligations.Jumps := by
  refine ⟨hasForms_of_rows (by decide +kernel), fun i a s hi hform => ?absolute, fun i p q s hi hform hq => ?indirect⟩
  all_goals
    have he := meaning_eq s hi
    rw [cycles_of_form hi hform, hform] at he
  case absolute => exact (Option.some.inj he).symm
  case indirect =>
    have hsuccessor : q = pageSuccessor p := BitVec.eq_of_toNat_eq (hq.trans (pageSuccessor_toNat p).symm)
    rw [← Option.some.inj he, hsuccessor]
    exact runJmpInd_next 5 p s

/-! ### Words on the stack -/

/-- A word is pushed high byte first (R210). -/
theorem pushed_pushWord (v : Word) (s : State) : Pushed [highByte v, lowByte v] s (pushWord v s) :=
  (pushed_push (highByte v) s).push (by simp) (lowByte v)

/-- A word is pulled low byte first (R562). -/
theorem pullWord_stacked (s : State) : pullWord s = (hiLo (stacked s 2) (stacked s 1), { s with sp := s.sp + 2 }) := by
  rw [pullWord_eq, BitVec.add_assoc, stacked_eq, stacked_eq]
  rfl

/-- Settles O17: JSR pushes the word PC - 1, and RTS pulls a word and adds 1. -/
theorem callAndReturn : Obligations.CallAndReturn := by
  refine ⟨hasForms_of_rows (by decide +kernel), hasForms_of_rows (by decide +kernel),
    fun i s => ⟨fun hi => ?jsr, fun hi => ?rts⟩⟩
  case jsr =>
    obtain ⟨a, hform, he⟩ := exec_jsr s hi
    have hreturn : (s.pc - 1).toNat = (s.pc.toNat + 65535) % 65536 := by
      rw [BitVec.toNat_sub, Nat.add_comm]
      rfl
    rw [he, cycles_of_form hi hform, runJsr, implied]
    refine ⟨a, _, highByte (s.pc - 1), lowByte (s.pc - 1), hform, rfl, (high_low_toNat _).trans hreturn,
      pushed_pushWord (s.pc - 1) s, ?_⟩
    rw [pushWord_eq]
    rfl
  case rts =>
    obtain ⟨hform, he⟩ := exec_rts s hi
    rw [he, cycles_of_implied hi hform, runRts, implied, pullWord_stacked]
    refine ⟨_, rfl, ?_, rfl⟩
    rw [← hiLo_toNat]
    exact BitVec.toNat_add ..

/-! ### Exceptions -/

/-- Taking an exception pushes PC, high byte first, and the status byte (R564, R710). -/
theorem pushed_takeException {vec : Word} (b : Byte) (s : State) (h : 0x6000 ≤ vec.toNat) (h' : vec.toNat < 0xFFFF) :
    Pushed [highByte s.pc, lowByte s.pc, b] s (takeException vec b s) := by
  have hpushed := (pushed_pushWord s.pc s).push (by simp) b
  rw [pushWord_eq, push_eq] at hpushed
  rw [takeException_eq b s h h']
  exact hpushed

/-- Returning from an exception pulls the status byte, then PC (R563). -/
theorem returnFromException_stacked (s : State) : returnFromException s =
    { s with sp := s.sp + 3, p := pulledStatus (stacked s 1), pc := hiLo (stacked s 3) (stacked s 2) } := by
  simp only [returnFromException_eq, BitVec.add_assoc, stacked_eq]
  rfl

/-- Settles O18: BRK takes the exception through `irqVector` with `pushedStatus`, and RTI returns from it. -/
theorem breakAndReturn : Obligations.BreakAndReturn := by
  refine ⟨hasForms_of_rows (by decide +kernel), hasForms_of_rows (by decide +kernel),
    fun i s => ⟨fun hi => ?brk, fun hi => ?rti⟩⟩
  case brk =>
    obtain ⟨sig, hform, he⟩ := exec_brk s hi
    have hlow : 0x6000 ≤ irqVector.toNat := by decide
    have hhigh : irqVector.toNat < 0xFFFF := by decide
    have hpushed := pushed_takeException (pushedStatus s.p) s hlow hhigh
    rw [he, cycles_of_form hi hform, runBrk, implied]
    refine ⟨_, highByte s.pc, lowByte s.pc, pushedStatus s.p, rfl, high_low_toNat s.pc, flagsAfter_pushedStatus s.p,
      hpushed, ?_⟩
    rw [takeException_eq _ s hlow hhigh]
    exact ⟨flagsAfter_setBit s.p .i true, hiLo_toNat .., rfl⟩
  case rti =>
    obtain ⟨hform, he⟩ := exec_rti s hi
    rw [he, cycles_of_implied hi hform, runRti, implied, returnFromException_stacked]
    exact ⟨_, rfl, flagsAfter_pulledStatus (stacked s 1), hiLo_toNat .., rfl⟩

/-! ### Flag instructions and NOPs -/

/-- An implied instruction whose rule sets one flag. -/
theorem impliedWith_of_setBit {m : Mnemonic} {opcode : Byte} {f : Flag} {b : Bool} (hforms : HasForms m [(opcode, .imp)])
    (hexec : ∀ (i : Instr) s, i.mnemonic = m →
      i.form = .implied ∧ exec i s = implied i.cycles (fun s => { s with p := setBit s.p f.pos b }) s) :
    ImpliedWith m opcode (fun s t => SameRegisters s t ∧ FlagsAfter s.p t.p [(f, b)]) :=
  impliedWith_of hforms hexec (fun _ => rfl) fun _ s => ⟨SameRegisters.refl s, flagsAfter_setBit s.p f b⟩

/-- Settles O19: each flag instruction is `setC`, `setI`, `setV` or `setD`. -/
theorem flagInstructions : Obligations.FlagInstructions := by
  simp only [Obligations.FlagInstructions, List.forall_mem_cons, List.not_mem_nil, false_implies, implies_true, and_true]
  exact ⟨impliedWith_of_setBit (hasForms_of_rows (by decide +kernel)) fun _ s => exec_clc s,
    impliedWith_of_setBit (hasForms_of_rows (by decide +kernel)) fun _ s => exec_sec s,
    impliedWith_of_setBit (hasForms_of_rows (by decide +kernel)) fun _ s => exec_cli s,
    impliedWith_of_setBit (hasForms_of_rows (by decide +kernel)) fun _ s => exec_sei s,
    impliedWith_of_setBit (hasForms_of_rows (by decide +kernel)) fun _ s => exec_clv s,
    impliedWith_of_setBit (hasForms_of_rows (by decide +kernel)) fun _ s => exec_cld s,
    impliedWith_of_setBit (hasForms_of_rows (by decide +kernel)) fun _ s => exec_sed s⟩

/-- Settles O20: an implied NOP spends its cycles, and a NOP with an operand is a read whose rule is the identity. -/
theorem noOperations : Obligations.NoOperations := by
  refine ⟨hasForms_of_rows (by decide +kernel), fun i s hi => ?_⟩
  obtain ⟨hform, he⟩ | ⟨o, hform, he⟩ := exec_nop s hi
  · rw [he, cycles_of_implied hi hform]
    exact .inl ⟨hform, rfl⟩
  · exact .inr ⟨o, _, hform, he, by simp [SameRegisters], by simp, by simp, by simp [Nat.add_assoc], SameOutside.refl _⟩

end Sys2Proof.Machine
end

section
/-! PROOFS. The undocumented opcodes but the NOPs (R600-R624): changes of flags one after the other, the combined
read-modify-write instructions from the shift they begin with, the two settings of SH_PAGECROSS in numbers, and JAM. -/

namespace Sys2Proof.Machine

/-! ### Flags changed twice -/

/-- Changes after changes: the later ones are looked up first. -/
theorem FlagsAfter.trans {p q r : Byte} {l l' : List (Flag × Bool)} (h : FlagsAfter p q l) (h' : FlagsAfter q r l') :
    FlagsAfter p r (l' ++ l) := by
  intro f
  rw [h' f, h f, List.lookup_append]
  cases l'.lookup f <;> rfl

@[simp] theorem setC_c (b : Bool) (s : State) : (setC b s).c = b := by
  rw [State.c, setC_p, getLsbD_setBit _ _ _ _ (by decide), if_pos rfl]

/-- What an addition writes does not depend on the carry it starts with, which is `c` already (R447). -/
theorem AddsInto.of_setC {b : Bool} {m : Byte} {c : Nat} {s t : State} (h : AddsInto m c (setC b s) t) :
    AddsInto m c s t := by
  obtain ⟨ha, hindex, hflags⟩ := h
  refine ⟨ha, hindex, ((flagsAfter_setBit s.p .c b).trans hflags).congr ?_⟩
  rintro (_ | _) <;> rfl

/-- The carry out of a right rotate, as the number it adds (R604). -/
theorem bit_decide_odd (n : Nat) : bit (decide (n % 2 = 1)) = n % 2 := by
  obtain h | h := Nat.mod_two_eq_zero_or_one n <;> rw [h] <;> rfl

/-! ### Combined read-modify-write instructions -/

section
variable {m : Mnemonic} {op : Byte → State → Byte × State} {result : Nat → Nat → Nat} {carry : Nat → Bool}

/-- A read-modify-write instruction that begins with a shift: `g` runs with the carry out of the shift in C (R600). -/
theorem modifiesWith_of_shift {g : Byte → State → State} {post : Byte → Byte → State → State → Prop}
    (hmeaning : ∀ c b e s, meaning m c b (.operand (.mem e)) s = some (modify c e op g s))
    (hop : ∀ v s, op v s = (BitVec.ofNat 8 (result v.toNat (bit s.c)), setC (carry v.toNat) s))
    (hg : ∀ r s, g r s = withRegisters (g r s) s) (hindex : ∀ r s, SameIndex s (g r s))
    (hpost : ∀ v r n s u, post v r s (spend n (g r (setC (carry v.toNat) (withRegisters s u))))) :
    ModifiesWith m result post := by
  refine modifiesWith_of hmeaning (fun v s u => ?registers) hg (fun v s => by rw [hop]) (fun v n s u => ?index)
    fun v n s u => ?post
  case registers =>
    rw [hop, hop]
    rfl
  all_goals rw [hop]
  case index => exact hindex ..
  case post => exact hpost v _ n s u

/-- A shift of memory whose result is then combined into A: Z and N are those of A (R601-R603). -/
theorem modifiesWith_of_shift_loadA {combine : Byte → Byte → Byte}
    (hmeaning : ∀ c b e s, meaning m c b (.operand (.mem e)) s =
      some (modify c e op (fun r s => loadA (combine s.a r) s) s))
    (hop : ∀ v s, op v s = (BitVec.ofNat 8 (result v.toNat (bit s.c)), setC (carry v.toNat) s)) :
    ModifiesWith m result fun old r s t =>
      t.a = combine s.a r ∧ FlagsAfter s.p t.p ((.c, carry old.toNat) :: zn t.a) :=
  modifiesWith_of_shift hmeaning hop (fun _ _ => rfl) (fun _ _ => ⟨rfl, rfl, rfl⟩)
    fun v r _ s _ => ⟨rfl, flagsAfter_setC_setZN (carry v.toNat) (combine s.a r) s⟩

end

/-- Settles O21: a shift of memory, then OR, AND or EOR into A. -/
theorem shiftAndLogic : Obligations.ShiftAndLogic :=
  ⟨hasForms_of_rows (by decide +kernel), hasForms_of_rows (by decide +kernel), hasForms_of_rows (by decide +kernel),
    modifiesWith_of_shift_loadA (op := shlOp) (carry := fun n => decide (128 ≤ n)) (combine := (· ||| ·))
      (fun _ _ _ _ => rfl) shlOp_eq,
    modifiesWith_of_shift_loadA (op := rolOp) (carry := fun n => decide (128 ≤ n)) (combine := (· &&& ·))
      (fun _ _ _ _ => rfl) rolOp_eq,
    modifiesWith_of_shift_loadA (op := shrOp) (carry := fun n => decide (n % 2 = 1)) (combine := (· ^^^ ·))
      (fun _ _ _ _ => rfl) shrOp_eq⟩

/-- RRA's addition takes the carry its rotate leaves (R604). -/
theorem addCore_setC_addsInto (r v : Byte) (s : State) :
    AddsInto r (v.toNat % 2) s (addCore r (setC (decide (v.toNat % 2 = 1)) s)) := by
  have h := addCore_addsInto r (setC (decide (v.toNat % 2 = 1)) s)
  rw [setC_c, bit_decide_odd] at h
  exact h.of_setC

/-- Settles O22: RRA is `rorOp` then `addCore`, DCP `decOp` then `compare`, ISC `incOp` then `subCore`. -/
theorem modifyAndArithmetic : Obligations.ModifyAndArithmetic :=
  ⟨hasForms_of_rows (by decide +kernel), hasForms_of_rows (by decide +kernel), hasForms_of_rows (by decide +kernel),
    modifiesWith_of_shift (op := rorOp) (carry := fun n => decide (n % 2 = 1)) (g := addCore)
      (fun _ _ _ _ => rfl) rorOp_eq (fun _ _ => rfl) (fun _ _ => ⟨rfl, rfl, rfl⟩)
      fun v r _ s u => addCore_setC_addsInto r v (withRegisters s u),
    modifiesWith_of (op := decOp) (g := fun r s => compare s.a r s) (fun _ _ _ _ => rfl) (fun _ _ _ => rfl)
      (fun _ _ => rfl) (fun v _ => dec_eq v) (fun _ _ _ _ => ⟨rfl, rfl, rfl⟩)
      fun v _ s _ => ⟨rfl, compare_compared s.a (v - 1) s⟩,
    modifiesWith_of (op := incOp) (g := subCore) (fun _ _ _ _ => rfl) (fun _ _ _ => rfl) (fun _ _ => rfl)
      (fun v _ => inc_eq v) (fun _ _ _ _ => ⟨rfl, rfl, rfl⟩) fun v _ s _ => subCore_subtractsFrom (v + 1) s⟩

/-! ### Loads, SAX and the immediate combinations -/

/-- Settles O23: SAX is one bus write of A AND X, and LAX a read whose rule is `loadAX`. -/
theorem combinedLoadStore : Obligations.CombinedLoadStore :=
  ⟨writesWith_of (hasForms_of_rows (by decide +kernel)) (fun _ s => exec_sax s),
    readsWith_of_registers (hasForms_of_rows (by decide +kernel)) (fun _ s => exec_lax s) (fun _ _ => rfl)
      fun m _ s _ => ⟨rfl, rfl, rfl, rfl, flagsAfter_setZN m s⟩⟩

/-- ARR writes Z and N, then C, then V (R611). -/
theorem flagsAfter_setZN_setC_setV (r : Byte) (c v : Bool) (s : State) :
    FlagsAfter s.p (setV v (setC c (setZN r s))).p ((.c, c) :: (.v, v) :: zn r) := by
  refine FlagsAfter.congr (((flagsAfter_setZN r s).thenSetBit .c c).thenSetBit .v v) ?_
  rintro (_ | _) <;> rfl

/-- Settles O24: ANC loads A and then sets C, ALR and ARR load the shifted byte, and SBX loads X with a difference. -/
theorem immediateCombinations : Obligations.ImmediateCombinations :=
  ⟨readsWith_of_registers (hasForms_of_rows (by decide +kernel)) (fun _ s => exec_anc s) (fun _ _ => rfl)
      fun m _ s _ => ⟨rfl, ⟨rfl, rfl, rfl⟩, (flagsAfter_setZN (s.a &&& m) s).thenSetBit .c _⟩,
    readsWith_of_registers (hasForms_of_rows (by decide +kernel)) (fun _ s => exec_alr s) (fun _ _ => rfl)
      fun m _ s _ => ⟨shr_eq (s.a &&& m), ⟨rfl, rfl, rfl⟩, getLsbD_zero_eq (s.a &&& m) ▸ flagsAfter_setC_setZN _ _ s⟩,
    readsWith_of_registers (hasForms_of_rows (by decide +kernel)) (fun _ s => exec_arr s) (fun _ _ => rfl)
      fun m _ s _ => ⟨ror_eq s.c (s.a &&& m), ⟨rfl, rfl, rfl⟩, flagsAfter_setZN_setC_setV _ _ _ s⟩,
    readsWith_of_registers (hasForms_of_rows (by decide +kernel)) (fun _ s => exec_sbx s) (fun _ _ => rfl)
      fun m _ s _ => ⟨(sub_ofInt (s.a &&& s.x) m).symm, rfl, rfl, rfl, flagsAfter_setC_setZN _ _ s⟩⟩

/-- The parameters a rule reads after its operand are those of the state before: an instruction writes none (R135). -/
theorem ReadsWith.of_cfg {m : Mnemonic} {forms : List (Byte × Mode)} {post : Byte → State → State → Prop}
    (h : ReadsWith m forms fun r s t => t.cfg = s.cfg → post r s t) : ReadsWith m forms post := by
  obtain ⟨hforms, hexec⟩ := h
  refine ⟨hforms, fun i s hi => ?_⟩
  obtain ⟨o, t, ho, he, hpc, hcycles, houtside, hpost⟩ := hexec i s hi
  refine ⟨o, t, ho, he, hpc, hcycles, houtside, hpost ?_⟩
  obtain ⟨-, -, -, -, -, -, hcfg, -, -⟩ := houtside
  exact hcfg.trans (readSource_cfg o s)

/-- Settles O25: ANE and LXA load a byte made with a parameter, and LAS loads A, X and SP. -/
theorem unstableLoads : Obligations.UnstableLoads :=
  ⟨.of_cfg (readsWith_of_registers (hasForms_of_rows (by decide +kernel)) (fun _ s => exec_ane s) (fun _ _ => rfl)
      fun m _ s u hcfg => ⟨hcfg ▸ rfl, ⟨rfl, rfl, rfl⟩, flagsAfter_setZN _ (withRegisters s u)⟩),
    .of_cfg (readsWith_of_registers (hasForms_of_rows (by decide +kernel)) (fun _ s => exec_lxa s) (fun _ _ => rfl)
      fun m _ s u hcfg => ⟨hcfg ▸ rfl, rfl, rfl, rfl, flagsAfter_setZN _ (withRegisters s u)⟩),
    readsWith_of_registers (hasForms_of_rows (by decide +kernel)) (fun _ s => exec_las s) (fun _ _ => rfl)
      fun m _ s _ => ⟨rfl, rfl, rfl, rfl, flagsAfter_setZN (m &&& s.sp) s⟩⟩

/-! ### High-byte stores -/

/-- The base's high byte plus 1, as a number (R617). -/
theorem highMasked_eq (reg : Byte) (e : EffAddr) :
    highMasked reg e = reg &&& BitVec.ofNat 8 (e.base.toNat / 256 + 1) := by
  rw [highMasked, inc_eq, highByte_toNat]

/-- Both settings of SH_PAGECROSS (R617, D5). -/
theorem highStoreAddr_toNat (mode : ShPageCross) (reg : Byte) (e : EffAddr) : (highStoreAddr mode reg e).toNat =
    if e.crossed = true ∧ mode = .replaceHigh then 256 * (highMasked reg e).toNat + e.addr.toNat % 256
    else e.addr.toNat := by
  unfold highStoreAddr
  split
  · rw [hiLo_toNat, lowByte_toNat]
  · rfl

/-- The register whose byte SHA, SHX, SHY or TAS stores, masked (R617-R620). -/
def highStoreSource (m : Mnemonic) (s : State) : Byte := if m = .shx then s.x else if m = .shy then s.y else s.a &&& s.x

/-- SP when they store: TAS sets it first (R620). -/
def highStoreSp (m : Mnemonic) (s : State) : Byte := if m = .tas then s.a &&& s.x else s.sp

/-- The four instructions are `storeHigh` of their source, after SP is set (R617-R620). -/
theorem exec_storeHigh {i : Instr} (s : State)
    (h : i.mnemonic = .sha ∨ i.mnemonic = .shx ∨ i.mnemonic = .shy ∨ i.mnemonic = .tas) :
    ∃ e, i.form = .operand (.mem e) ∧ exec i s =
      storeHigh i.cycles e (highStoreSource i.mnemonic s) { s with sp := highStoreSp i.mnemonic s } := by
  obtain hi | hi | hi | hi := h <;> rw [hi]
  · exact exec_sha s hi
  · exact exec_shx s hi
  · exact exec_shy s hi
  · exact exec_tas s hi

/-- A high-byte store writes once, where its rule says in the state before SP is set, and changes no other register. -/
theorem storeHigh_setSp (cyc : Nat) (e : MemForm) (reg sp : Byte) (s : State) :
    let addr := highStoreAddr s.cfg.shPageCross reg (effAddr e s)
    storeHigh cyc e reg { s with sp := sp } = .next (spend (cyc + dmaStall addr (s.cycles + cyc))
      (withRegisters { s with sp := sp } (busWrite addr (highMasked reg (effAddr e s)) s))) := by
  intro addr
  rw [storeHigh, effAddr_setSp, storeAt_next, writeCycles_eq, ← busWrite_withRegisters]
  rfl

/-- Settles O26: each is `storeHigh`, of which the value and the address are known in numbers. -/
theorem highByteStores : Obligations.HighByteStores := by
  refine ⟨hasForms_of_rows (by decide +kernel), hasForms_of_rows (by decide +kernel),
    hasForms_of_rows (by decide +kernel), hasForms_of_rows (by decide +kernel), fun i s hi => ?_⟩
  obtain ⟨e, hform, he⟩ := exec_storeHigh s hi
  rw [storeHigh_setSp] at he
  exact ⟨e, _, _, _, hform, he, highMasked_eq _ _, highStoreAddr_toNat _ _ _, rfl, rfl, rfl, rfl, rfl, by simp,
    by simp [Nat.add_assoc, highStoreSource], SameOutside.refl _⟩

/-! ### JAM -/

/-- Settles O27: JAM is `raiseFatal` and spends no cycle. -/
theorem jamFaults : Obligations.JamFaults :=
  ⟨hasForms_of_rows (by decide +kernel), fun _ s hi => (exec_jam s hi).2⟩

end Sys2Proof.Machine
end

section
/-! PROOFS. Interrupt entry and the poll (R710-R716). -/

namespace Sys2Proof.Machine

/-- Settles O52: an entry takes the exception with `entryStatus`, through a vector in cartridge space. -/
theorem interruptEntry : Obligations.InterruptEntry := by
  intro s vec hvec
  have hlow : 0x6000 ≤ vec.toNat := by obtain rfl | rfl := hvec <;> decide
  have hhigh : vec.toNat < 0xFFFF := by obtain rfl | rfl := hvec <;> decide
  have hpushed := pushed_takeException (entryStatus s.p) s hlow hhigh
  refine ⟨highByte s.pc, lowByte s.pc, entryStatus s.p, high_low_toNat s.pc, flagsAfter_entryStatus s.p, hpushed, ?_⟩
  rw [enter, takeException_eq _ s hlow hhigh]
  exact ⟨flagsAfter_setBit s.p .i true, hiLo_toNat .., rfl⟩

/-- Without an NMI request, an IRQ is taken exactly if a source is asserted and I is clear (R713, R715). -/
theorem poll_of_no_nmi {s : State} (h : s.ppu.nmiRequest = false) : poll s =
    if (s.apu.frameIrq = true ∨ s.cart.mapper.irqPending = true) ∧ s.i = false then catchUp 7 (enter 0xFFFE s)
    else s := by
  simp [poll, h, State.irqLine, irqVector]

/-- Settles O53: an NMI request is the first branch of `poll`, and `poll_of_no_nmi` says the rest. -/
theorem interruptPoll : Obligations.InterruptPoll := by
  refine fun s => ⟨fun hnmi => if_pos hnmi, fun hnmi hi hline => ?taken, fun hnmi hno => ?passed⟩
  case taken => rw [poll_of_no_nmi hnmi, if_pos ⟨hline, hi⟩]
  case passed =>
    rw [poll_of_no_nmi hnmi, if_neg]
    rintro ⟨hline, hi⟩
    obtain hset | ⟨hframe, hmapper⟩ := hno
    · simp [hset] at hi
    · simp [hframe, hmapper] at hline

end Sys2Proof.Machine
end

section
/-! PROOFS. Every instruction answers a next state, and only JAM touches the fault record (R624, R700): by mnemonic, from
the shapes of access. -/

namespace Sys2Proof.Machine

/-- The result is a next state with the fault record of s. -/
def Completes (s : State) (r : StepResult) : Prop := ∃ t, r = .next t ∧ t.fault = s.fault

/-! ### The stack and exceptions -/

@[simp] theorem push_fault (v : Byte) (s : State) : (push v s).fault = s.fault := by rw [push_eq]
@[simp] theorem pushWord_fault (v : Word) (s : State) : (pushWord v s).fault = s.fault := by rw [pushWord_eq]
@[simp] theorem pull_fault (s : State) : (pull s).2.fault = s.fault := by rw [pull_eq]
@[simp] theorem pullWord_fault (s : State) : (pullWord s).2.fault = s.fault := by rw [pullWord_eq]
@[simp] theorem takeException_fault (vec : Word) (b : Byte) (s : State) :
    (takeException vec b s).fault = s.fault := by simp [takeException, readWord]
@[simp] theorem returnFromException_fault (s : State) : (returnFromException s).fault = s.fault := by
  rw [returnFromException_eq]

/-! ### The shapes of access -/

section
variable {s : State} {r : StepResult} {c : Nat} {f : Form} {m : MemForm}

theorem implied_completes {g : State → State} (hg : (g s).fault = s.fault) : Completes s (implied c g s) := ⟨_, rfl, hg⟩

theorem readWith_completes {o : Source} {g : Byte → State → State} (hg : ∀ v t, (g v t).fault = t.fault) :
    Completes s (readWith c o g s) := ⟨_, rfl, (hg _ _).trans (readSource_fault o s)⟩

theorem storeAt_completes {addr : Word} {v : Byte} {t : State} (h : t.fault = s.fault) :
    Completes s (storeAt c addr v t) := ⟨_, rfl, (busWrite_fault addr v t).trans h⟩

theorem modify_completes {op : Byte → State → Byte × State} {g : Byte → State → State}
    (hop : ∀ v t, (op v t).2.fault = t.fault) (hg : ∀ v t, (g v t).fault = t.fault) :
    Completes s (modify c m op g s) := ⟨_, rfl, by simp [hop, hg]⟩

theorem modifyA_completes {op : Byte → State → Byte × State} (hop : ∀ v t, (op v t).2.fault = t.fault) :
    Completes s (modifyA c op s) := ⟨_, rfl, hop _ s⟩

theorem branch_completes {cond : Bool} {d : Int} : Completes s (branch c cond d s) := by
  cases cond <;> exact ⟨_, rfl, rfl⟩

theorem onOperand_completes {k : Source → StepResult} (h : onOperand f k = some r) (hk : ∀ o, Completes s (k o)) :
    Completes s r := by
  obtain ⟨o, -, rfl⟩ := onOperand_eq h
  exact hk o

theorem onMem_completes {k : MemForm → StepResult} (h : onMem f k = some r) (hk : ∀ m, Completes s (k m)) :
    Completes s r := by
  obtain ⟨m, -, rfl⟩ := onMem_eq h
  exact hk m

theorem onShift_completes {k : MemForm → StepResult} {k' : StepResult} (h : onShift f k k' = some r)
    (hk : ∀ m, Completes s (k m)) (hk' : Completes s k') : Completes s r := by
  obtain ⟨m, -, rfl⟩ | ⟨-, rfl⟩ := onShift_eq h
  · exact hk m
  · exact hk'

theorem onRelative_completes {k : Int → StepResult} (h : onRelative f k = some r) (hk : ∀ d, Completes s (k d)) :
    Completes s r := by
  obtain ⟨d, -, rfl⟩ := onRelative_eq h
  exact hk d

theorem onImplied_completes {k : StepResult} (h : onImplied f k = some r) (hk : Completes s k) : Completes s r :=
  (onImplied_eq h).2 ▸ hk

end

/-! ### Every instruction but JAM -/

/-- An instruction that is not JAM completes and records no fault (R624, R700). -/
theorem exec_completes {i : Instr} (s : State) (hjam : i.mnemonic ≠ .jam) : Completes s (exec i s) := by
  cases hi : i.mnemonic with
  | jam => exact absurd hi hjam
  | lda | ldx | ldy | lax | adc | sbc | and | ora | eor | bit | cmp | cpx | cpy | anc | alr | arr
  | sbx | ane | lxa | las => exact onOperand_completes (meaning_eq s hi) fun _ => readWith_completes fun _ _ => rfl
  | sta | stx | sty | sax | sha | shx | shy | tas =>
    exact onMem_completes (meaning_eq s hi) fun _ => storeAt_completes rfl
  | inc | dec | slo | rla | sre | rra | dcp | isc =>
    exact onMem_completes (meaning_eq s hi) fun _ => modify_completes (fun _ _ => rfl) fun _ _ => rfl
  | asl | lsr | rol | ror =>
    exact onShift_completes (meaning_eq s hi) (fun _ => modify_completes (fun _ _ => rfl) fun _ _ => rfl)
      (modifyA_completes fun _ _ => rfl)
  | bpl | bmi | bvc | bvs | bcc | bcs | bne | beq =>
    exact onRelative_completes (meaning_eq s hi) fun _ => branch_completes
  | tax | tay | txa | tya | tsx | txs | inx | iny | dex | dey | clc | sec | cli | sei | cld | sed
  | clv => exact onImplied_completes (meaning_eq s hi) (implied_completes rfl)
  | pha | php => exact onImplied_completes (meaning_eq s hi) (implied_completes (push_fault _ s))
  | pla | plp => exact onImplied_completes (meaning_eq s hi) (implied_completes (pull_fault s))
  | rts => exact onImplied_completes (meaning_eq s hi) (implied_completes (pullWord_fault s))
  | rti => exact onImplied_completes (meaning_eq s hi) (implied_completes (returnFromException_fault s))
  | jmp =>
    obtain ⟨a, -, he⟩ | ⟨a, -, he⟩ := exec_jmp s hi
    · exact ⟨_, he, rfl⟩
    · exact ⟨_, he, (busRead_fault _ _).trans (busRead_fault a s)⟩
  | jsr =>
    obtain ⟨a, -, he⟩ := exec_jsr s hi
    exact ⟨_, he, pushWord_fault _ s⟩
  | brk =>
    obtain ⟨sig, -, he⟩ := exec_brk s hi
    exact ⟨_, he, takeException_fault _ _ s⟩
  | nop =>
    obtain ⟨-, he⟩ | ⟨o, -, he⟩ := exec_nop s hi
    · exact ⟨_, he, rfl⟩
    · exact ⟨_, he, readSource_fault o s⟩

end Sys2Proof.Machine
end

section
/-! PROOFS. The fatal fault (R700, R1100, R1124): the step that records it, the faulted machine, and the ends of a run. -/

namespace Sys2Proof.Machine

/-! ### The step that records the fault -/

/-- An instruction of a filled row has the row's opcode (R300). -/
theorem opcode_fill (op b : Byte) (w : Word) : ((decodeRow op).fill b w).opcode = op := by
  obtain ⟨henc, hwf⟩ := encode_fill op b w
  rw [encode_eq hwf] at henc
  exact (List.cons.inj henc).1

/-- The fetched instruction has the opcode read at PC (R321). -/
theorem fetchInstr_opcode (s : State) : (fetchInstr s).1.opcode = (busRead s.pc s).1 := by
  have hfill := opcode_fill (fetchByte s).1
  unfold fetchInstr
  dsimp only
  split <;> rename_i hrow <;> rw [hrow] at hfill
  · exact hfill 0 0
  · exact hfill _ 0
  · exact hfill 0 _

/-- A JAM opcode has no operand byte (R624). -/
theorem operandBytes_of_jam : ∀ op : Byte, (rowOf op).1 = .jam → (decodeRow op).operandBytes 0 0 = [] := by
  decide +kernel

/-- So a fetched JAM is one byte (R321). -/
theorem fetchInstr_of_jam {s : State} (h : (fetchInstr s).1.mnemonic = .jam) : (fetchInstr s).2 = (fetchByte s).2 := by
  have hnone : (decodeRow (fetchByte s).1).operandBytes 0 0 = [] :=
    operandBytes_of_jam (busRead s.pc s).1 (by rw [← fetchInstr_opcode, rowOf_opcode, h])
  unfold fetchInstr
  dsimp only
  split <;> rename_i hrow
  · rfl
  all_goals
    rw [hrow] at hnone
    cases hnone

@[simp] theorem fetchByte_fault (s : State) : (fetchByte s).2.fault = s.fault := by rw [fetchByte_frame]

@[simp] theorem fetchInstr_fault (s : State) : (fetchInstr s).2.fault = s.fault := by
  unfold fetchInstr
  dsimp only
  split <;> simp

@[simp] theorem enter_fault (vec : Word) (s : State) : (enter vec s).fault = s.fault := takeException_fault vec _ s

@[simp] theorem poll_fault (s : State) : (poll s).fault = s.fault := by
  unfold poll
  split_ifs <;> simp

@[simp] theorem complete_fault (s t : State) : (complete s t).fault = t.fault := by
  unfold complete
  split <;> simp

/-- A machine that fetches another instruction than JAM steps without a fault (R1100). -/
theorem step_of_not_jam {s : State} (h : s.fault = none) (hjam : (fetchInstr s).1.mnemonic ≠ .jam) :
    ∃ t, step s = .next t ∧ t.fault = none := by
  obtain ⟨u, hu, hfault⟩ := exec_completes (fetchInstr s).2 hjam
  exact ⟨_, step_of_exec h hu, by simp [hfault, h]⟩

/-- A machine that fetches a JAM records its opcode and address, and spends no cycle (R700). -/
theorem step_of_jam {s : State} (h : s.fault = none) (hjam : (fetchInstr s).1.mnemonic = .jam) :
    step s = .next (raiseFatal (busRead s.pc s).1 (fetchByte s).2) := by
  rw [step_of_exec h (exec_jam _ hjam).2, fetchInstr_opcode, fetchInstr_of_jam hjam]
  rfl

/-- A machine without a fault steps (R1100). -/
theorem step_total {s : State} (h : s.fault = none) : ∃ t, step s = .next t := by
  by_cases hjam : (fetchInstr s).1.mnemonic = .jam
  · exact ⟨_, step_of_jam h hjam⟩
  · obtain ⟨t, ht, -⟩ := step_of_not_jam h hjam
    exact ⟨t, ht⟩

/-! ### The faulted machine -/

/-- No act of the host changes a run whose machine has failed (R700). -/
theorem Run.act_of_fault {r : Run} {f : FaultRecord} (h : r.state.fault = some f) (act : HostAct) : r.act act = r := by
  cases act with
  | setButtons mask => rw [Run.act, hostSetButtons, unlessFaulted_some _ h]
  | drainFrame => rw [Run.act, hostDrainFrame_of_fault h]
  | drainAudio => rw [Run.act, hostDrainAudio_of_fault h]
  | reset => rw [Run.act, resetMachine_of_fault h]

/-! ### The ends of a run -/

section
variable {limit : Limit} {r : Run}

theorem Run.ending_of_fault {f : FaultRecord} (h : r.state.fault = some f) : r.ending limit = some (.failure f) := by
  simp [Run.ending, h]

theorem Run.ending_eq_none :
    r.ending limit = none ↔ r.state.fault = none ∧ limit.reachedBy r = false := by
  cases h : r.state.fault <;> simp [Run.ending, h]

theorem Run.ending_eq_reached :
    r.ending limit = some .reached ↔ r.state.fault = none ∧ limit.reachedBy r = true := by
  cases h : r.state.fault <;> simp [Run.ending, h]

/-- A run that has ended goes no further (R1124). -/
theorem runFrom_of_ended (plan : List (List HostAct)) (h : (r.ending limit).isSome = true) : runFrom limit plan r = r := by
  cases plan with
  | nil => rfl
  | cons acts later => exact if_pos h

/-- A run that has not ended makes the next acts and the next step (R1103). -/
theorem runFrom_cons (acts : List HostAct) (later : List (List HostAct)) (h : r.ending limit = none) :
    runFrom limit (acts :: later) r = runFrom limit later (acts.foldl Run.act r).step := by
  simp [runFrom, h]

/-- A step after the host's acts counts unless it records a fault (R1124). -/
theorem Run.step_acts_steps (acts : List HostAct) (h : r.state.fault = none) :
    (acts.foldl Run.act r).step.steps = r.steps + bit (acts.foldl Run.act r).step.state.fault.isNone := by
  obtain ⟨hsteps, -, hfault⟩ := Run.acts_frame acts r
  obtain ⟨t, ht⟩ := step_total (hfault.trans h)
  rw [Run.step_of_next ht, hsteps]

end

/-- A run without an end has done every step of its plan (R1124). -/
theorem runFrom_steps_of_no_end {limit : Limit} (plan : List (List HostAct)) : ∀ r : Run,
    (runFrom limit plan r).ending limit = none → (runFrom limit plan r).steps = r.steps + plan.length := by
  induction plan with
  | nil => exact fun _ _ => rfl
  | cons acts later ih =>
    intro r h
    cases hr : r.ending limit with
    | some e =>
      rw [runFrom_of_ended _ (by simp [hr]), hr] at h
      cases h
    | none =>
      have hsteps := Run.step_acts_steps acts (Run.ending_eq_none.mp hr).1
      rw [runFrom_cons acts later hr] at h ⊢
      cases hf : (acts.foldl Run.act r).step.state.fault with
      | some f =>
        have hended := Run.ending_of_fault (limit := limit) hf
        rw [runFrom_of_ended _ (by simp [hended]), hended] at h
        cases h
      | none =>
        rw [ih _ h, hsteps, hf, List.length_cons, Nat.add_right_comm]
        rfl

/-- A run that meets a limit of k steps has done exactly k (R1124). -/
theorem runFrom_steps_of_reached {k : Nat} (plan : List (List HostAct)) : ∀ r : Run, r.steps ≤ k →
    (runFrom (.steps k) plan r).ending (.steps k) = some .reached → (runFrom (.steps k) plan r).steps = k := by
  have hexact {r : Run} (hle : r.steps ≤ k) (h : r.ending (.steps k) = some .reached) : r.steps = k :=
    Nat.le_antisymm hle (of_decide_eq_true (Run.ending_eq_reached.mp h).2)
  induction plan with
  | nil => exact fun _ => hexact
  | cons acts later ih =>
    intro r hle h
    cases hr : r.ending (.steps k) with
    | some e =>
      rw [runFrom_of_ended _ (by simp [hr])] at h ⊢
      exact hexact hle h
    | none =>
      obtain ⟨hfault, hlimit⟩ := Run.ending_eq_none.mp hr
      have hlt : ¬k ≤ r.steps := of_decide_eq_false hlimit
      have hsteps := Run.step_acts_steps acts hfault
      rw [runFrom_cons acts later hr] at h ⊢
      refine ih _ ?_ h
      have := bit_le_one (acts.foldl Run.act r).step.state.fault.isNone
      omega

/-- Settles O54: a faulted machine has no step, reset or act; another steps, by a JAM or without a fault; and the ends of
a run are by induction on its plan. -/
theorem faultIsTerminal : Obligations.FaultIsTerminal := by
  refine ⟨fun s => ⟨fun f hf => ⟨?_, resetMachine_of_fault hf, ?_⟩, fun hf => ?_⟩, fun limit plan r =>
    ⟨runFrom_of_ended plan, fun f => Run.ending_of_fault, runFrom_steps_of_no_end plan r, ?_⟩⟩
  · rw [step, hf]
  · rintro r act rfl
    exact Run.act_of_fault hf act
  · by_cases hjam : (fetchInstr s).1.mnemonic = .jam
    · have hpc : (fetchByte s).2.pc - 1 = s.pc := BitVec.add_sub_cancel s.pc 1
      exact ⟨_, step_of_jam hf hjam, .inr ⟨by rw [raiseFatal_fault, hpc], hpc, busRead_cycles s.pc s, hjam⟩⟩
    · obtain ⟨t, ht, hnone⟩ := step_of_not_jam hf hjam
      exact ⟨t, ht, .inl hnone⟩
  · rintro k rfl
    exact runFrom_steps_of_reached plan r

end Sys2Proof.Machine
end

section
/-! PROOFS. The PPU's dot (R820-R862): what each part of a tick leaves unchanged, then the position, the VBlank events,
the sprite set and the framebuffer. -/

namespace Sys2Proof.Machine

/-! ### The effect of a dot -/

/-- What processing a dot does to the PPU outside the sprite set, the framebuffer and v (R820, R822, R823). -/
structure Ppu.DotProcessed (p q : Ppu) : Prop where
  scanline : q.scanline = p.scanline
  dot : q.dot = p.dot
  frame : q.frame = p.frame
  vbl : q.vbl = (decide (p.scanline = 241 ∧ p.dot = 1) || (p.vbl && !decide (p.scanline = 261 ∧ p.dot = 1)))
  nmiRequest : q.nmiRequest = (p.nmiRequest || (decide (p.scanline = 241 ∧ p.dot = 1) && p.ctrl.getLsbD 7))
  frameComplete : q.frameComplete = (p.frameComplete || decide (p.scanline = 241 ∧ p.dot = 1))
  cleared : p.scanline = 261 ∧ p.dot = 1 → q.s0 = false ∧ q.ovf = false

/-- The sprite set and OVF when the entries `seen` cover the line and OVF was `o` before (R850). -/
structure Ppu.Evaluated (limit : Nat) (seen : List Nat) (o : Bool) (p : Ppu) : Prop where
  sprites : p.sprLine.map SpriteRec.index = seen.take limit
  ovf : p.ovf = (o || decide (limit < seen.length))

/-! ### What a dot leaves unchanged -/

section

variable (limit : Nat) (c : Cartridge) (y : Nat)

/-- An OAM entry changes the sprite set and OVF only (R850). -/
theorem evalSprite_frame (k : Nat) (p : Ppu) : evalSprite limit c y k p = { p with
    sprLine := (evalSprite limit c y k p).sprLine, ovf := (evalSprite limit c y k p).ovf } := by
  unfold evalSprite
  dsimp only
  split_ifs <;> rfl

theorem evalSprites_frame (n : Nat) : ∀ (k : Nat) (p : Ppu), evalSprites limit c y n k p = { p with
    sprLine := (evalSprites limit c y n k p).sprLine, ovf := (evalSprites limit c y n k p).ovf } := by
  induction n with
  | zero => exact fun _ _ => rfl
  | succ n ih =>
    intro k p
    rw [evalSprites, ih, evalSprite_frame]

/-- Sprite evaluation changes the sprite set and OVF only (R850). -/
theorem spriteEvaluation_frame (p : Ppu) : spriteEvaluation limit c y p = { p with
    sprLine := (spriteEvaluation limit c y p).sprLine, ovf := (spriteEvaluation limit c y p).ovf } := by
  unfold spriteEvaluation
  split
  · rw [evalSprites_frame]
  · rfl

/-- A pixel changes one cell of the framebuffer and S0 (R853, R855). -/
theorem drawPixel_frame (px : Nat) (p : Ppu) : drawPixel c y px p = { p with
    fb := (drawPixel c y px p).fb, s0 := (drawPixel c y px p).s0 } := by
  unfold drawPixel
  split <;> rfl

/-- The scroll updates change v only (R824). -/
theorem scrollUpdate_frame (line d : Nat) (p : Ppu) : scrollUpdate line d p = { p with
    v := (scrollUpdate line d p).v } := by
  unfold scrollUpdate
  split_ifs <;> rfl

/-- A dot of a visible line (R821). -/
theorem visibleDot_frame (p : Ppu) : visibleDot limit c p = { p with
    sprLine := (visibleDot limit c p).sprLine, ovf := (visibleDot limit c p).ovf, fb := (visibleDot limit c p).fb
    s0 := (visibleDot limit c p).s0, v := (visibleDot limit c p).v } := by
  unfold visibleDot
  dsimp only
  rw [scrollUpdate_frame]
  split
  · rw [drawPixel_frame]
    split
    · rw [spriteEvaluation_frame]
    · rfl
  · split
    · rw [spriteEvaluation_frame]
    · rfl

end

/-- A dot of the pre-render line changes v and, at dot 1, clears the status flags (R821, R823). -/
theorem preRenderDot_eq (p : Ppu) : preRenderDot p = { p with
    vbl := p.vbl && decide (p.dot ≠ 1), s0 := p.s0 && decide (p.dot ≠ 1), ovf := p.ovf && decide (p.dot ≠ 1)
    v := (preRenderDot p).v } := by
  unfold preRenderDot
  dsimp only
  rw [scrollUpdate_frame]
  split
  · next h => simp [preRenderClear, h]
  · next h => simp [h]

/-- The scanline clock is the mapper's (R825). -/
theorem scanlineClock_ppu (s : State) : (scanlineClock s).ppu = s.ppu := by
  unfold scanlineClock
  split <;> rfl

/-- The PPU after its dot is processed, line by line (R821-R823). -/
theorem processDot_ppu (s : State) : (processDot s).ppu =
    if s.ppu.scanline < 240 then visibleDot s.cfg.spriteLimit s.cart s.ppu
    else if s.ppu.scanline = 241 then if s.ppu.dot = 1 then vblankStart s.ppu else s.ppu
    else if s.ppu.scanline = 261 then preRenderDot s.ppu
    else s.ppu := by
  unfold processDot
  split
  · exact scanlineClock_ppu _
  · split
    · split <;> rfl
    · split
      · exact scanlineClock_ppu _
      · rfl

/-- Line by line, each dot has its effect. -/
theorem processDot_processed (s : State) : s.ppu.DotProcessed (processDot s).ppu := by
  rw [processDot_ppu]
  split_ifs with hvisible hline hdot hpre
  · have h241 : s.ppu.scanline ≠ 241 := by omega
    have h261 : s.ppu.scanline ≠ 261 := by omega
    rw [visibleDot_frame]
    constructor <;> simp [h241, h261]
  · constructor <;> simp [vblankStart, Ppu.nmie, hline, hdot]
  · constructor <;> simp [hline, hdot]
  · rw [preRenderDot_eq]
    constructor <;> simp +contextual [hpre]
  · constructor <;> simp [hline, hpre]

/-! ### The position -/

/-- The advance moves the position only (R820). -/
theorem advanceDot_frame (p : Ppu) : advanceDot p = { p with
    scanline := (advanceDot p).scanline, dot := (advanceDot p).dot, frame := (advanceDot p).frame } := by
  unfold advanceDot
  split_ifs <;> rfl

/-- The count of frame settings, by cases of the position (R861). -/
theorem Ppu.frameSettings_eq (p : Ppu) : p.frameSettings =
    p.frame + if 241 < p.scanline ∨ (p.scanline = 241 ∧ 1 < p.dot) then 1 else 0 := by
  simp [Ppu.frameSettings, bit]

section

variable {p : Ppu} (hline : p.scanline ≤ 261) (hdot : p.dot ≤ 340)
include hline hdot

/-- The position counted in dots from frame 0 grows by 1, and is again a position of the frame (R820). -/
theorem advanceDot_position :
    89342 * (advanceDot p).frame + 341 * (advanceDot p).scanline + (advanceDot p).dot =
        89342 * p.frame + 341 * p.scanline + p.dot + 1 ∧
      (advanceDot p).scanline ≤ 261 ∧ (advanceDot p).dot ≤ 340 := by
  unfold advanceDot
  split_ifs <;> dsimp only <;> omega

/-- The count of frame settings grows where the advance leaves dot (241, 1) (R861). -/
theorem advanceDot_frameSettings :
    (advanceDot p).frameSettings = p.frameSettings + if p.scanline = 241 ∧ p.dot = 1 then 1 else 0 := by
  rw [Ppu.frameSettings_eq, Ppu.frameSettings_eq]
  unfold advanceDot
  split_ifs <;> dsimp only at * <;> omega

end

/-- One tick processes a dot and advances (R820). -/
theorem ppuTick_ppu (s : State) : (ppuTick s).ppu = advanceDot (processDot s).ppu := rfl

/-- Settles O40: processing a dot leaves the position, and the advance moves it. -/
theorem dotAdvance : Obligations.DotAdvance := by
  intro s hline hdot
  have h := processDot_processed s
  have hline' : (processDot s).ppu.scanline ≤ 261 := h.scanline ▸ hline
  have hdot' : (processDot s).ppu.dot ≤ 340 := h.dot ▸ hdot
  obtain ⟨hposition, hlines, hdots⟩ := advanceDot_position hline' hdot'
  have hsettings := advanceDot_frameSettings hline' hdot'
  have hsame : (processDot s).ppu.frameSettings = s.ppu.frameSettings := by
    rw [Ppu.frameSettings, h.scanline, h.dot, h.frame, Ppu.frameSettings]
  rw [h.scanline, h.dot, h.frame] at hposition
  rw [hsame, h.scanline, h.dot] at hsettings
  exact ⟨hposition, hlines, hdots, hsettings⟩

/-! ### VBlank -/

/-- Settles O41: the flags are those of the dot processed. -/
theorem vblankEvents : Obligations.VblankEvents := by
  intro s
  have h := processDot_processed s
  dsimp only
  rw [ppuTick_ppu, advanceDot_frame]
  exact ⟨h.vbl, h.nmiRequest, h.frameComplete, fun hclears => h.cleared (of_decide_eq_true hclears)⟩

/-- After n ticks from dot (0, 0) of a frame, n at most 82183: the position, and VBL as R862 derives it. -/
theorem iterate_ppuTick_vbl {s : State} (hline : s.ppu.scanline = 0) (hdot : s.ppu.dot = 0) (hvbl : s.ppu.vbl = false)
    (n : Nat) : n ≤ 82183 →
    let p := (ppuTick^[n] s).ppu
    89342 * p.frame + 341 * p.scanline + p.dot = 89342 * s.ppu.frame + n ∧ p.scanline ≤ 261 ∧ p.dot ≤ 340 ∧
      p.vbl = decide (n = 82183) := by
  induction n with
  | zero => intro _; simp [hline, hdot, hvbl]
  | succ n ih =>
    intro hn
    obtain ⟨hposition, hl, hd, hv⟩ := ih (by omega)
    rw [Function.iterate_succ_apply']
    generalize ppuTick^[n] s = t at *
    obtain ⟨hnext, hl', hd', -⟩ := dotAdvance t hl hd
    refine ⟨by omega, hl', hd', ?_⟩
    rw [(vblankEvents t).1, hv]
    have hstarts : (t.ppu.scanline = 241 ∧ t.ppu.dot = 1) ↔ n = 82182 := by omega
    have hbefore : n ≠ 82183 := by omega
    simp [hstarts, hbefore]

/-- Settles O42: by the position and VBL after each tick. -/
theorem firstVblank : Obligations.FirstVblank := by
  intro s n hline hdot hvbl hn
  obtain ⟨-, -, -, h⟩ := iterate_ppuTick_vbl hline hdot hvbl n hn
  exact h

/-! ### Sprite evaluation -/

/-- Whether OAM entry k has a row on line y (R850). -/
def Ppu.covers (p : Ppu) (y k : Nat) : Bool :=
  decide ((Cells.read p.oam (4 * k)).toNat + 1 ≤ y ∧ y < (Cells.read p.oam (4 * k)).toNat + 1 + p.spriteHeight)

section

variable {limit : Nat} {c : Cartridge} {y k : Nat} {p : Ppu} {seen : List Nat} {o : Bool}

theorem evalSprite_of_not_covers (h : p.covers y k = false) : evalSprite limit c y k p = p := by
  have hrow := of_decide_eq_false h
  exact if_neg (by omega)

theorem evalSprite_of_room (h : p.covers y k = true) (hroom : p.sprLine.length < limit) :
    ∃ r : SpriteRec, r.index = k ∧ evalSprite limit c y k p = { p with sprLine := p.sprLine ++ [r] } := by
  have hrow := of_decide_eq_true h
  exact ⟨_, rfl, (if_pos (by omega)).trans (if_pos hroom)⟩

theorem evalSprite_of_full (h : p.covers y k = true) (hfull : ¬p.sprLine.length < limit) :
    evalSprite limit c y k p = { p with ovf := true } := by
  have hrow := of_decide_eq_true h
  exact (if_pos (by omega)).trans (if_neg hfull)

/-- The evaluation of an entry does not move the others (R850). -/
theorem evalSprite_covers : (evalSprite limit c y k p).covers y = p.covers y := by
  rw [evalSprite_frame]
  rfl

/-- One entry joins those seen if it covers the line. -/
theorem Ppu.Evaluated.evalSprite (h : p.Evaluated limit seen o) :
    (evalSprite limit c y k p).Evaluated limit (seen ++ [k].filter (p.covers y)) o := by
  obtain ⟨hsprites, hovf⟩ := h
  have hlength : p.sprLine.length = min limit seen.length := by
    rw [← List.length_map (f := SpriteRec.index), hsprites, List.length_take]
  cases hcovers : p.covers y k with
  | false =>
    simp only [evalSprite_of_not_covers hcovers, List.filter_singleton, hcovers, cond_false, List.append_nil]
    exact ⟨hsprites, hovf⟩
  | true =>
    have hnext : (seen ++ [k]).length = seen.length + 1 := by rw [List.length_append, List.length_singleton]
    simp only [List.filter_singleton, hcovers, cond_true]
    by_cases hroom : p.sprLine.length < limit
    · obtain ⟨r, hr, heq⟩ := evalSprite_of_room (c := c) hcovers hroom
      rw [heq]
      constructor
      · rw [List.map_append, hsprites, List.take_of_length_le (by omega), List.map_singleton, hr,
          List.take_of_length_le (by omega)]
      · have hsmall : ¬limit < seen.length := by omega
        have hfits : ¬limit < (seen ++ [k]).length := by omega
        simpa only [hsmall, hfits] using hovf
    · rw [evalSprite_of_full hcovers hroom]
      constructor
      · rw [List.take_append_of_le_length (by omega)]
        exact hsprites
      · have hmore : limit < (seen ++ [k]).length := by omega
        simp only [hmore, decide_true, Bool.or_true]

/-- The entries from k on, in OAM order. -/
theorem Ppu.Evaluated.evalSprites (n : Nat) : ∀ {k : Nat} {p : Ppu} {seen : List Nat}, p.Evaluated limit seen o →
    (evalSprites limit c y n k p).Evaluated limit (seen ++ (List.range' k n).filter (p.covers y)) o := by
  induction n with
  | zero => intro k p seen h; simpa [Machine.evalSprites] using h
  | succ n ih =>
    intro k p seen h
    have hrest := ih (k := k + 1) (h.evalSprite (c := c) (y := y) (k := k))
    rwa [evalSprite_covers, List.append_assoc, ← List.filter_append, List.singleton_append, ← List.range'_succ] at hrest

end

/-- Settles O43: entry by entry from the empty set. -/
theorem spriteEvaluation_firstCovering : Obligations.SpriteEvaluation := by
  intro limit c y p hrendering
  have hempty : ({ p with sprLine := [] } : Ppu).Evaluated limit [] p.ovf := ⟨by simp, by simp⟩
  have h := hempty.evalSprites (c := c) (y := y) 64 (k := 0)
  rw [List.nil_append, ← List.range_eq_range'] at h
  dsimp only
  rw [spriteEvaluation, if_pos hrendering]
  exact ⟨h.sprites, h.ovf⟩

/-! ### The framebuffer -/

/-- The pixel is the one cell of the framebuffer a tick can write (R855). -/
theorem drawPixel_fb (c : Cartridge) (y px : Nat) (p : Ppu) :
    ∃ i, (drawPixel c y px p).fb = Cells.write p.fb (256 * y + px) (colour c p i) ∧
      (p.rendering = false → i = 0) := by
  unfold drawPixel
  split
  · next h => exact ⟨_, rfl, by simp [h]⟩
  · exact ⟨0, rfl, fun _ => rfl⟩

/-- Sprite evaluation does not change what a colour is read from. -/
theorem colour_spriteEvaluation (limit : Nat) (c : Cartridge) (y : Nat) (p : Ppu) :
    colour c (spriteEvaluation limit c y p) = colour c p := by
  rw [spriteEvaluation_frame]
  rfl

/-- The framebuffer after a dot of a visible line within the picture: one cell is written (R821, R855). -/
theorem visibleDot_fb_of_pixel (limit : Nat) (c : Cartridge) {p : Ppu} (h : 1 ≤ p.dot ∧ p.dot ≤ 256) :
    ∃ i, (visibleDot limit c p).fb = Cells.write p.fb (256 * p.scanline + (p.dot - 1)) (colour c p i) ∧
      (p.rendering = false → i = 0) := by
  have hfb : (visibleDot limit c p).fb = (drawPixel c p.scanline (p.dot - 1)
      (if p.dot = 1 then spriteEvaluation limit c p.scanline p else p)).fb := by
    rw [visibleDot, scrollUpdate_frame, if_pos h]
  rw [hfb]
  split
  · obtain ⟨i, hi, hzero⟩ := drawPixel_fb c p.scanline (p.dot - 1) (spriteEvaluation limit c p.scanline p)
    rw [colour_spriteEvaluation] at hi
    rw [spriteEvaluation_frame] at hi hzero
    rw [spriteEvaluation_frame]
    exact ⟨i, hi, hzero⟩
  · exact drawPixel_fb ..

/-- The framebuffer after a dot of a visible line outside the picture (R855). -/
theorem visibleDot_fb_of_blank (limit : Nat) (c : Cartridge) {p : Ppu} (h : ¬(1 ≤ p.dot ∧ p.dot ≤ 256)) :
    (visibleDot limit c p).fb = p.fb := by
  have hdot : p.dot ≠ 1 := by omega
  rw [visibleDot, scrollUpdate_frame, if_neg h, if_neg hdot]

/-- A tick outside the picture leaves the framebuffer (R855). -/
theorem ppuTick_fb_of_blank {s : State} (h : ¬(s.ppu.scanline < 240 ∧ 1 ≤ s.ppu.dot ∧ s.ppu.dot ≤ 256)) :
    (ppuTick s).ppu.fb = s.ppu.fb := by
  rw [ppuTick_ppu, advanceDot_frame, processDot_ppu]
  split_ifs with hvisible
  · exact visibleDot_fb_of_blank _ _ fun hdot => h ⟨hvisible, hdot⟩
  · rfl
  · rfl
  · rw [preRenderDot_eq]
  · rfl

/-- A tick within the picture writes the cell of its dot, in the backdrop colour when rendering is off (R854, R855). -/
theorem ppuTick_fb_of_pixel {s : State} (hline : s.ppu.scanline < 240) (hdot : 1 ≤ s.ppu.dot ∧ s.ppu.dot ≤ 256) :
    ∃ i, (ppuTick s).ppu.fb =
        Cells.write s.ppu.fb (256 * s.ppu.scanline + (s.ppu.dot - 1)) (colour s.cart s.ppu i) ∧
      (s.ppu.rendering = false → i = 0) := by
  rw [ppuTick_ppu, advanceDot_frame, processDot_ppu, if_pos hline]
  exact visibleDot_fb_of_pixel _ _ hdot

/-- The backdrop colour (R854). -/
theorem colour_zero_toNat (c : Cartridge) (p : Ppu) :
    (colour c p 0).toNat = (Cells.read p.pal 0 &&& if p.mask.getLsbD 0 then 0x30 else 0x3F).toNat := by
  have hwidth (v m : Byte) (hm : m.toNat < 64) : ((v &&& m).setWidth 6).toNat = (v &&& m).toNat := by
    rw [BitVec.toNat_setWidth, Nat.mod_eq_of_lt]
    exact Nat.lt_of_le_of_lt (BitVec.toNat_and v m ▸ Nat.and_le_right) hm
  have hentry : ppuRead c p (0x3F00 + 0) = Cells.read p.pal 0 := rfl
  rw [colour, hentry]
  split
  · rw [BitVec.and_assoc]
    exact hwidth _ _ (by decide)
  · exact hwidth _ _ (by decide)

/-- Settles O44: within the picture one cell is written, elsewhere none. -/
theorem framebufferWrites : Obligations.FramebufferWrites := by
  refine fun s n => ⟨fun h => ?other, fun hline hfirst hlast hoff => ?backdrop⟩
  case other =>
    by_cases hpixel : s.ppu.scanline < 240 ∧ 1 ≤ s.ppu.dot ∧ s.ppu.dot ≤ 256
    · obtain ⟨hline, hdot⟩ := hpixel
      obtain ⟨i, hfb, -⟩ := ppuTick_fb_of_pixel hline hdot
      rw [hfb]
      exact read_write_other _ _ fun hcell => h ⟨hline, hdot.1, hdot.2, hcell.symm⟩
    · rw [ppuTick_fb_of_blank hpixel]
  case backdrop =>
    obtain ⟨i, hfb, hzero⟩ := ppuTick_fb_of_pixel hline ⟨hfirst, hlast⟩
    rw [hfb, read_write_same, hzero hoff, colour_zero_toNat]

end Sys2Proof.Machine
end

section
/-! PROOFS. The scroll registers v and t (R800, R805, R806, R826-R828) by their fields, and the values of port reads. -/

namespace Sys2Proof.Machine

/-! ### A scroll address by its fields -/

/-- A 15-bit scroll address by its fields: fine Y, the vertical and the horizontal nametable bit, coarse Y and
coarse X. -/
def scrollAddr (fineY : BitVec 3) (ntV ntH : BitVec 1) (coarseY coarseX : BitVec 5) : BitVec 15 :=
  fineY ++ ntV ++ ntH ++ coarseY ++ coarseX

section

variable (fy fy' : BitVec 3) (nv nv' nh nh' : BitVec 1) (cy cy' cx cx' : BitVec 5)

theorem scrollAddr_toNat : (scrollAddr fy nv nh cy cx).toNat =
    4096 * fy.toNat + 2048 * nv.toNat + 1024 * nh.toNat + 32 * cy.toNat + cx.toNat := by
  simp only [scrollAddr, BitVec.toNat_append]
  rw [← Nat.shiftLeft_add_eq_or_of_lt nv.isLt, ← Nat.shiftLeft_add_eq_or_of_lt nh.isLt,
    ← Nat.shiftLeft_add_eq_or_of_lt cy.isLt, ← Nat.shiftLeft_add_eq_or_of_lt cx.isLt]
  simp only [Nat.shiftLeft_eq]
  omega

theorem scrollAddr_and : scrollAddr fy nv nh cy cx &&& scrollAddr fy' nv' nh' cy' cx' =
    scrollAddr (fy &&& fy') (nv &&& nv') (nh &&& nh') (cy &&& cy') (cx &&& cx') :=
  BitVec.and_append.trans (by rw [BitVec.and_append, BitVec.and_append, BitVec.and_append]; rfl)

theorem scrollAddr_or : scrollAddr fy nv nh cy cx ||| scrollAddr fy' nv' nh' cy' cx' =
    scrollAddr (fy ||| fy') (nv ||| nv') (nh ||| nh') (cy ||| cy') (cx ||| cx') :=
  BitVec.or_append.trans (by rw [BitVec.or_append, BitVec.or_append, BitVec.or_append]; rfl)

theorem scrollAddr_xor : scrollAddr fy nv nh cy cx ^^^ scrollAddr fy' nv' nh' cy' cx' =
    scrollAddr (fy ^^^ fy') (nv ^^^ nv') (nh ^^^ nh') (cy ^^^ cy') (cx ^^^ cx') :=
  BitVec.xor_append.trans (by rw [BitVec.xor_append, BitVec.xor_append, BitVec.xor_append]; rfl)

end

/-- Every 15-bit value is the scroll address of its fields. -/
theorem exists_scrollAddr (v : BitVec 15) : ∃ fy nv nh cy cx, v = scrollAddr fy nv nh cy cx := by
  refine ⟨v.extractLsb' 12 3, v.extractLsb' 11 1, v.extractLsb' 10 1, v.extractLsb' 5 5, v.extractLsb' 0 5,
    BitVec.eq_of_toNat_eq ?_⟩
  have hlt := v.isLt
  simp only [scrollAddr_toNat, BitVec.extractLsb'_toNat, Nat.shiftRight_eq_div_pow]
  omega

/-- Two scroll addresses are equal exactly when their fields are. -/
theorem scrollAddr_inj {fy fy' : BitVec 3} {nv nv' nh nh' : BitVec 1} {cy cy' cx cx' : BitVec 5} :
    scrollAddr fy nv nh cy cx = scrollAddr fy' nv' nh' cy' cx' ↔
      fy = fy' ∧ nv = nv' ∧ nh = nh' ∧ cy = cy' ∧ cx = cx' := by
  simp only [← BitVec.toNat_inj, scrollAddr_toNat]
  omega

/-! ### The scroll functions by fields -/

@[simp] theorem and_ones_three : ∀ f : BitVec 3, f &&& 7#3 = f := by decide

@[simp] theorem and_ones_five : ∀ f : BitVec 5, f &&& 31#5 = f := by decide

@[simp] theorem and_ones_one : ∀ f : BitVec 1, f &&& 1#1 = f := by decide

/-- The fields `CopyH` takes from t (R828). -/
theorem horizontalMask_eq : (0x041F : BitVec 15) = scrollAddr 0 0 1 0 31 := rfl

/-- The fields `CopyV` takes from t (R828). -/
theorem verticalMask_eq : (0x7BE0 : BitVec 15) = scrollAddr 7 1 0 31 0 := rfl

section

variable (fy : BitVec 3) (nv nh : BitVec 1) (cy cx : BitVec 5)

/-- A step of coarse X below 31 is a step of the address. -/
theorem scrollAddr_add_one (h : cx ≠ 31) : scrollAddr fy nv nh cy cx + 1 = scrollAddr fy nv nh cy (cx + 1) := by
  have hcx : cx.toNat ≠ 31 := fun hcx => h (BitVec.eq_of_toNat_eq hcx)
  apply BitVec.eq_of_toNat_eq
  simp only [BitVec.toNat_add, BitVec.ofNat_eq_ofNat, BitVec.toNat_ofNat, scrollAddr_toNat]
  omega

/-- A step of fine Y below 7 is a step of the address by 0x1000. -/
theorem scrollAddr_add_row (h : fy ≠ 7) : scrollAddr fy nv nh cy cx + 0x1000 = scrollAddr (fy + 1) nv nh cy cx := by
  have hfy : fy.toNat ≠ 7 := fun hfy => h (BitVec.eq_of_toNat_eq hfy)
  apply BitVec.eq_of_toNat_eq
  simp only [BitVec.toNat_add, BitVec.ofNat_eq_ofNat, BitVec.toNat_ofNat, scrollAddr_toNat]
  omega

/-- `IncCoarseX` (R826): coarse X alone, or past 31 the horizontal nametable bit. -/
theorem incCoarseX_scrollAddr : incCoarseX (scrollAddr fy nv nh cy cx) =
    if cx = 31 then scrollAddr fy nv (nh ^^^ 1) cy 0 else scrollAddr fy nv nh cy (cx + 1) := by
  have hlow : scrollAddr fy nv nh cy cx &&& 0x001F = 31 ↔ cx = 31 := by
    rw [show (0x001F : BitVec 15) = scrollAddr 0 0 0 0 31 from rfl]
    simp [scrollAddr_and, scrollAddr_inj]
  have hwrap : (scrollAddr fy nv nh cy cx &&& 0x7FE0) ^^^ 0x0400 = scrollAddr fy nv (nh ^^^ 1) cy 0 := by
    rw [show (0x7FE0 : BitVec 15) = scrollAddr 7 1 1 31 0 from rfl,
      show (0x0400 : BitVec 15) = scrollAddr 0 0 1 0 0 from rfl]
    simp [scrollAddr_and, scrollAddr_xor]
  rw [incCoarseX, hwrap]
  exact ite_congr (propext hlow) (fun _ => rfl) (scrollAddr_add_one fy nv nh cy cx)

/-- Coarse Y moved to the low bits. -/
theorem scrollAddr_coarseY : (scrollAddr fy nv nh cy cx >>> 5) &&& 31 = scrollAddr 0 0 0 0 cy := by
  apply BitVec.eq_of_toNat_eq
  have hmod : ∀ n : Nat, n &&& 31 = n % 32 := fun n => Nat.and_two_pow_sub_one_eq_mod n 5
  simp only [BitVec.toNat_and, BitVec.toNat_ushiftRight, BitVec.ofNat_eq_ofNat, BitVec.toNat_ofNat,
    Nat.shiftRight_eq_div_pow, Nat.reduceMod, Nat.reducePow, hmod, scrollAddr_toNat]
  omega

/-- `IncY` (R827): fine Y alone, or past 7 coarse Y, with the vertical nametable bit past 29. -/
theorem incY_scrollAddr : incY (scrollAddr fy nv nh cy cx) =
    if fy ≠ 7 then scrollAddr (fy + 1) nv nh cy cx
    else if cy = 29 then scrollAddr 0 (nv ^^^ 1) nh 0 cx
    else scrollAddr 0 nv nh (cy + 1) cx := by
  have hrow : scrollAddr fy nv nh cy cx &&& 0x7000 ≠ 0x7000 ↔ fy ≠ 7 := by
    rw [show (0x7000 : BitVec 15) = scrollAddr 7 0 0 0 0 from rfl]
    simp [scrollAddr_and, scrollAddr_inj]
  have hfirst : scrollAddr fy nv nh cy cx &&& 0x0FFF = scrollAddr 0 nv nh cy cx := by
    rw [show (0x0FFF : BitVec 15) = scrollAddr 0 1 1 31 31 from rfl]
    simp [scrollAddr_and]
  have htop (nv : BitVec 1) : scrollAddr 0 nv nh cy cx &&& 0x7C1F = scrollAddr 0 nv nh 0 cx := by
    rw [show (0x7C1F : BitVec 15) = scrollAddr 7 1 1 0 31 from rfl]
    simp [scrollAddr_and]
  have htoggle : scrollAddr 0 nv nh cy cx ^^^ 0x0800 = scrollAddr 0 (nv ^^^ 1) nh cy cx := by
    rw [show (0x0800 : BitVec 15) = scrollAddr 0 1 0 0 0 from rfl]
    simp [scrollAddr_xor]
  have hlast : ∀ cy : BitVec 5, scrollAddr 0 0 0 0 cy = 29 ↔ cy = 29 := by decide
  have hout : ∀ cy : BitVec 5, scrollAddr 0 0 0 0 cy = 31 ↔ cy = 31 := by decide
  have hnext : ∀ cy : BitVec 5, cy ≠ 31 → (scrollAddr 0 0 0 0 cy + 1) <<< 5 = scrollAddr 0 0 0 (cy + 1) 0 := by
    decide
  unfold incY
  dsimp only
  rw [hfirst, scrollAddr_coarseY, htoggle, htop, htop]
  refine ite_congr (propext hrow) (scrollAddr_add_row fy nv nh cy cx) fun _ =>
    ite_congr (propext (hlast cy)) (fun _ => rfl) fun _ => ?_
  split_ifs with h
  · rw [(hout cy).mp h]; rfl
  · change scrollAddr 0 nv nh cy cx &&& 0x7C1F ||| _ = _
    rw [htop, hnext cy (mt (hout cy).mpr h), scrollAddr_or]
    simp

theorem copyH_scrollAddr (fy' : BitVec 3) (nv' nh' : BitVec 1) (cy' cx' : BitVec 5) :
    copyH (scrollAddr fy nv nh cy cx) (scrollAddr fy' nv' nh' cy' cx') = scrollAddr fy nv nh' cy cx' := by
  rw [copyH, verticalMask_eq, horizontalMask_eq]
  simp [scrollAddr_and, scrollAddr_or]

theorem copyV_scrollAddr (fy' : BitVec 3) (nv' nh' : BitVec 1) (cy' cx' : BitVec 5) :
    copyV (scrollAddr fy nv nh cy cx) (scrollAddr fy' nv' nh' cy' cx') = scrollAddr fy' nv' nh cy' cx := by
  rw [copyV, verticalMask_eq, horizontalMask_eq]
  simp [scrollAddr_and, scrollAddr_or]

end

/-- A toggled bit as a number. -/
theorem toggle_toNat : ∀ b : BitVec 1, (b ^^^ 1#1).toNat = 1 - b.toNat := by decide

/-- Settles O39: each function by the fields of its arguments. -/
theorem scrollFunctions : Obligations.ScrollFunctions := by
  intro v t
  obtain ⟨fy, nv, nh, cy, cx, rfl⟩ := exists_scrollAddr v
  obtain ⟨fy', nv', nh', cy', cx', rfl⟩ := exists_scrollAddr t
  dsimp only
  rw [incCoarseX_scrollAddr, incY_scrollAddr, copyH_scrollAddr, copyV_scrollAddr]
  simp only [apply_ite BitVec.toNat, scrollAddr_toNat, toggle_toNat, ← BitVec.toNat_inj, BitVec.toNat_add,
    BitVec.ofNat_eq_ofNat, BitVec.toNat_ofNat, ne_eq]
  refine ⟨?coarseX, ?y, ?copyH, ?copyV⟩
  case coarseX => split_ifs <;> omega
  case y => split_ifs <;> omega
  case copyH => omega
  case copyV => omega

/-! ### The writes that set the scroll registers -/

section

variable (d : Byte)

/-- The lowest k bits of a byte as a remainder. -/
theorem and_lowBits_toNat {m : Byte} {k : Nat} (hm : m.toNat = 2 ^ k - 1) : (d &&& m).toNat = d.toNat % 2 ^ k := by
  rw [BitVec.toNat_and, hm, Nat.and_two_pow_sub_one_eq_mod]

/-- The nametable field of a PPUCTRL byte, in its place (R800). -/
theorem ctrlField_eq : (d &&& 0x03).setWidth 15 <<< 10 =
    scrollAddr 0 (d.extractLsb' 1 1) (d.extractLsb' 0 1) 0 0 := by
  apply BitVec.eq_of_toNat_eq
  simp only [BitVec.toNat_shiftLeft, BitVec.toNat_setWidth, and_lowBits_toNat d (m := 0x03#8) (k := 2) rfl,
    scrollAddr_toNat, BitVec.extractLsb'_toNat, BitVec.ofNat_eq_ofNat, BitVec.toNat_ofNat, Nat.shiftLeft_eq,
    Nat.shiftRight_eq_div_pow]
  omega

/-- The upper five bits of a PPUSCROLL byte, as coarse X (R805). -/
theorem coarseXField_eq : (d >>> 3).setWidth 15 = scrollAddr 0 0 0 0 (d.extractLsb' 3 5) := by
  apply BitVec.eq_of_toNat_eq
  simp only [BitVec.toNat_setWidth, BitVec.toNat_ushiftRight, scrollAddr_toNat,
    BitVec.extractLsb'_toNat, BitVec.ofNat_eq_ofNat, BitVec.toNat_ofNat, Nat.shiftRight_eq_div_pow]
  omega

/-- The upper five bits of a PPUSCROLL byte, in the place of coarse Y (R805). -/
theorem coarseYField_eq : (d >>> 3).setWidth 15 <<< 5 = scrollAddr 0 0 0 (d.extractLsb' 3 5) 0 := by
  apply BitVec.eq_of_toNat_eq
  simp only [coarseXField_eq, BitVec.toNat_shiftLeft, scrollAddr_toNat, BitVec.ofNat_eq_ofNat, BitVec.toNat_ofNat,
    Nat.shiftLeft_eq]
  omega

/-- The lower three bits of a PPUSCROLL byte, in the place of fine Y (R805). -/
theorem fineYField_eq : (d &&& 7).setWidth 15 <<< 12 = scrollAddr (d.setWidth 3) 0 0 0 0 := by
  apply BitVec.eq_of_toNat_eq
  simp only [BitVec.toNat_shiftLeft, BitVec.toNat_setWidth, and_lowBits_toNat d (m := 7#8) (k := 3) rfl, scrollAddr_toNat,
    BitVec.ofNat_eq_ofNat, BitVec.toNat_ofNat, Nat.shiftLeft_eq]
  omega

/-- The high byte of a PPUADDR address, in its place (R806). -/
theorem addrHigh_toNat : ((d &&& 0x3F).setWidth 15 <<< 8).toNat = (d.toNat % 64) <<< 8 := by
  simp only [BitVec.toNat_shiftLeft, BitVec.toNat_setWidth, and_lowBits_toNat d (m := 0x3F) (k := 6) rfl,
    Nat.shiftLeft_eq]
  omega

theorem addrHigh_and_mask : (d &&& 0x3F).setWidth 15 <<< 8 &&& 0x7F00#15 = (d &&& 0x3F).setWidth 15 <<< 8 := by
  have hmask : (0x7F00#15) = (0x7F#8).setWidth 15 <<< 8 := rfl
  rw [hmask, ← BitVec.shiftLeft_and_distrib, ← BitVec.setWidth_and, BitVec.and_assoc]
  rfl

end

section

variable (fy : BitVec 3) (nv nh : BitVec 1) (cy cx : BitVec 5) (d : Byte)

theorem setNametable_scrollAddr : scrollAddr fy nv nh cy cx &&& 0x73FF#15 ||| (d &&& 0x03).setWidth 15 <<< 10 =
    scrollAddr fy (d.extractLsb' 1 1) (d.extractLsb' 0 1) cy cx := by
  rw [ctrlField_eq, show 0x73FF#15 = scrollAddr 7 0 0 31 31 from rfl]
  simp [scrollAddr_and, scrollAddr_or]

theorem setScrollX_scrollAddr : scrollAddr fy nv nh cy cx &&& 0x7FE0#15 ||| (d >>> 3).setWidth 15 =
    scrollAddr fy nv nh cy (d.extractLsb' 3 5) := by
  rw [coarseXField_eq, show 0x7FE0#15 = scrollAddr 7 1 1 31 0 from rfl]
  simp [scrollAddr_and, scrollAddr_or]

theorem setScrollY_scrollAddr :
    scrollAddr fy nv nh cy cx &&& 0x0C1F#15 ||| (d &&& 7).setWidth 15 <<< 12 ||| (d >>> 3).setWidth 15 <<< 5 =
      scrollAddr (d.setWidth 3) nv nh (d.extractLsb' 3 5) cx := by
  rw [coarseYField_eq, fineYField_eq, show 0x0C1F#15 = scrollAddr 0 1 1 0 31 from rfl]
  simp [scrollAddr_and, scrollAddr_or]

end

/-- The two writes of a PPUADDR address leave nothing of the old t: the first sets the high byte and the second, which
keeps it, the low byte (R806). -/
theorem addrBytes_toNat (t : BitVec 15) (d e : Byte) :
    ((t &&& 0x00FF#15 ||| (d &&& 0x3F).setWidth 15 <<< 8) &&& 0x7F00#15 ||| e.setWidth 15).toNat =
      256 * (d.toNat % 64) + e.toNat := by
  have hold : t &&& 0x00FF#15 &&& 0x7F00#15 = 0#15 := by
    rw [BitVec.and_assoc]
    exact BitVec.and_zero
  rw [BitVec.and_or_distrib_right, hold, BitVec.zero_or, addrHigh_and_mask, BitVec.toNat_or, addrHigh_toNat,
    BitVec.toNat_setWidth_of_le (by decide), ← Nat.shiftLeft_add_eq_or_of_lt e.isLt, Nat.shiftLeft_eq, Nat.mul_comm]

section

variable {s : State} (d : Byte)

/-- A PPUCTRL write and t (R800). -/
theorem portWrite_ctrl_t : (portWrite 0 d s).ppu.t = s.ppu.t &&& 0x73FF#15 ||| (d &&& 0x03).setWidth 15 <<< 10 := rfl

/-- The first PPUSCROLL write (R805). -/
theorem portWrite_scroll_first (hw : s.ppu.w = false) : (portWrite 5 d s).ppu = { s.ppu with
    t := s.ppu.t &&& 0x7FE0#15 ||| (d >>> 3).setWidth 15, x := d.setWidth 3, w := true, latch := d } := by
  simp [portWrite, setLatch, writeScroll, hw]

/-- The second PPUSCROLL write (R805). -/
theorem portWrite_scroll_second (hw : s.ppu.w = true) : (portWrite 5 d s).ppu = { s.ppu with
    t := s.ppu.t &&& 0x0C1F#15 ||| (d &&& 7).setWidth 15 <<< 12 ||| (d >>> 3).setWidth 15 <<< 5
    w := false, latch := d } := by
  simp [portWrite, setLatch, writeScroll, hw]

/-- The first PPUADDR write (R806). -/
theorem portWrite_addr_first (hw : s.ppu.w = false) : (portWrite 6 d s).ppu = { s.ppu with
    t := s.ppu.t &&& 0x00FF#15 ||| (d &&& 0x3F).setWidth 15 <<< 8, w := true, latch := d } := by
  simp [portWrite, setLatch, writeAddr, hw]

/-- The second PPUADDR write, which copies t to v (R806). -/
theorem portWrite_addr_second (hw : s.ppu.w = true) : (portWrite 6 d s).ppu = { s.ppu with
    t := s.ppu.t &&& 0x7F00#15 ||| d.setWidth 15, v := s.ppu.t &&& 0x7F00#15 ||| d.setWidth 15
    w := false, latch := d } := by
  simp [portWrite, setLatch, writeAddr, hw]

end

/-- Settles O36: t by its fields for PPUCTRL and PPUSCROLL, by its bytes for PPUADDR. -/
theorem scrollRegisterWrites : Obligations.ScrollRegisterWrites := by
  intro s d e
  obtain ⟨fy, nv, nh, cy, cx, ht⟩ := exists_scrollAddr s.ppu.t
  refine ⟨?ctrl, fun hw => ?scroll, fun hw => ?addr⟩
  case ctrl =>
    rw [portWrite_ctrl_t, ht, setNametable_scrollAddr, scrollAddr_toNat, scrollAddr_toNat]
    simp only [BitVec.extractLsb'_toNat, Nat.shiftRight_eq_div_pow]
    omega
  case scroll =>
    have hfirst := portWrite_scroll_first d hw
    rw [portWrite_scroll_second e (by rw [hfirst]), hfirst, ht]
    refine ⟨?_, BitVec.toNat_setWidth .., rfl, rfl⟩
    dsimp only
    have hd := d.isLt
    have he := e.isLt
    rw [setScrollX_scrollAddr, setScrollY_scrollAddr, scrollAddr_toNat, scrollAddr_toNat]
    simp only [BitVec.extractLsb'_toNat, BitVec.toNat_setWidth, Nat.shiftRight_eq_div_pow]
    omega
  case addr =>
    have hfirst := portWrite_addr_first d hw
    rw [portWrite_addr_second e (by rw [hfirst]), hfirst]
    exact ⟨addrBytes_toNat s.ppu.t d e, rfl, rfl, rfl⟩

/-! ### The values of port reads -/

/-- Setting a bit that is clear adds its value. -/
theorem setBit_eq_add {x : Byte} {i : Nat} (b : Bool) (hi : i < 8) (hx : x.getLsbD i = false) :
    setBit x i b = x + BitVec.ofNat 8 (2 ^ i * bit b) := by
  cases b with
  | false =>
    apply BitVec.eq_of_getLsbD_eq
    intro k _
    rw [getLsbD_setBit x i k false hi]
    split
    · next h => simp [bit, h, hx]
    · simp [bit]
  | true =>
    have hdisjoint : x &&& BitVec.twoPow 8 i = 0 := by rw [BitVec.and_twoPow, hx]; rfl
    have hpow : BitVec.ofNat 8 (2 ^ i * bit true) = BitVec.twoPow 8 i := by
      apply BitVec.eq_of_toNat_eq
      rw [BitVec.toNat_ofNat, BitVec.toNat_twoPow, bit, if_pos rfl, mul_one]
    rw [hpow, BitVec.add_eq_or_of_and_eq_zero _ _ hdisjoint, BitVec.twoPow_eq]
    rfl

/-- The PPUSTATUS byte as a number (R118, R802). -/
theorem statusByte_eq (p : Ppu) : p.statusByte =
    BitVec.ofNat 8 (128 * bit p.vbl + 64 * bit p.s0 + 32 * bit p.ovf + p.latch.toNat % 32) := by
  have hlatch : p.latch &&& 0x1F = BitVec.ofNat 8 (p.latch.toNat % 32) := by
    apply BitVec.eq_of_toNat_eq
    rw [and_lowBits_toNat p.latch (m := 0x1F) (k := 5) rfl, BitVec.toNat_ofNat]
    omega
  have h7 : (p.latch &&& 0x1F).getLsbD 7 = false := BitVec.getLsbD_and.trans (Bool.and_false _)
  have h6 : (setBit (p.latch &&& 0x1F) 7 p.vbl).getLsbD 6 = false := by
    rw [getLsbD_setBit _ _ _ _ (by decide)]
    exact BitVec.getLsbD_and.trans (Bool.and_false _)
  have h5 : (setBit (setBit (p.latch &&& 0x1F) 7 p.vbl) 6 p.s0).getLsbD 5 = false := by
    rw [getLsbD_setBit _ _ _ _ (by decide), getLsbD_setBit _ _ _ _ (by decide)]
    exact BitVec.getLsbD_and.trans (Bool.and_false _)
  rw [Ppu.statusByte, setBit_eq_add _ (by decide) h5, setBit_eq_add _ (by decide) h6, setBit_eq_add _ (by decide) h7,
    hlatch, ← BitVec.ofNat_add, ← BitVec.ofNat_add, ← BitVec.ofNat_add]
  congr 1
  omega

/-- PPUDATA reads are buffered below the palette and immediate in it (R807). -/
theorem portRead_data_fst (s : State) : (portRead 7 s).1 =
    if s.ppu.dataAddr < 0x3F00 then s.ppu.readBuffer else Cells.read s.ppu.pal (palIndex s.ppu.dataAddr) := by
  refine ite_congr rfl (fun _ => rfl) fun hpal => ?_
  have hlt : s.ppu.dataAddr < 0x4000 := Nat.mod_lt _ (by decide)
  rw [ppuRead_eq _ _ hlt, if_neg (by omega), if_neg hpal, palIndex_eq]

/-- Settles O37, port by port. -/
theorem portReadValues : Obligations.PortReadValues := by
  intro s n _
  by_cases h : n ∈ [2, 4, 7]
  · simp only [List.mem_cons, List.not_mem_nil, or_false] at h
    obtain rfl | rfl | rfl := h
    · exact statusByte_eq s.ppu
    · rfl
    · exact portRead_data_fst s
  · rw [portRead_writeOnly h]
    simp only [List.mem_cons, List.not_mem_nil, or_false, not_or] at h
    obtain ⟨h2, h4, h7⟩ := h
    rw [if_neg h2, if_neg h4, if_neg h7]

end Sys2Proof.Machine
end

section
/-! PROOFS. The APU (R940-R954): the frame sequencer's count and IRQ, the registers `$4015` and `$4017`, the sweep unit
in integers, and the range of the mixer. -/

namespace Sys2Proof.Machine

/-! ### The frame sequencer -/

/-- The number of ticks after which the frame sequencer starts anew (R940). -/
def Apu.framePeriod (u : Apu) : Nat := if u.fsMode then 37282 else 29830

/-- What the 4-step sequence can change outside the channels (R940). -/
theorem Apu.fourStep_frame (low : SweepLowTest) (n : Nat) (u : Apu) : u.fourStep low n = { u with
    pulse1 := (u.fourStep low n).pulse1, pulse2 := (u.fourStep low n).pulse2
    tri := (u.fourStep low n).tri, noise := (u.fourStep low n).noise
    fsCount := if n = 29830 then 0 else u.fsCount
    frameIrq := u.frameIrq || (!u.irqInhibit && decide (n = 29829)) } := by
  by_cases hirq : n = 29829
  · subst hirq
    simp [Apu.fourStep, Apu.quarterClock, Apu.halfClock]
  · rw [decide_eq_false hirq, Bool.and_false, Bool.or_false]
    by_cases hend : n = 29830
    · subst hend
      rfl
    · rw [if_neg hend]
      unfold Apu.fourStep
      rw [if_neg hirq, if_neg hend]
      split_ifs <;> rfl

/-- What the 5-step sequence can change outside the channels: it never sets the frame IRQ (R940). -/
theorem Apu.fiveStep_frame (low : SweepLowTest) (n : Nat) (u : Apu) : u.fiveStep low n = { u with
    pulse1 := (u.fiveStep low n).pulse1, pulse2 := (u.fiveStep low n).pulse2
    tri := (u.fiveStep low n).tri, noise := (u.fiveStep low n).noise
    fsCount := if n = 37282 then 0 else u.fsCount } := by
  by_cases hend : n = 37282
  · subst hend
    rfl
  · rw [if_neg hend]
    unfold Apu.fiveStep
    rw [if_neg hend]
    split_ifs <;> rfl

/-- What the sequencer can change outside the channels (R940). -/
theorem Apu.sequencer_frame (low : SweepLowTest) (u : Apu) : u.sequencer low = { u with
    pulse1 := (u.sequencer low).pulse1, pulse2 := (u.sequencer low).pulse2
    tri := (u.sequencer low).tri, noise := (u.sequencer low).noise
    fsCount := if u.fsCount + 1 = u.framePeriod then 0 else u.fsCount + 1
    frameIrq := u.frameIrq || (!u.fsMode && !u.irqInhibit && decide (u.fsCount + 1 = 29829)) } := by
  unfold Apu.sequencer Apu.framePeriod
  cases hmode : u.fsMode with
  | false =>
    simp only [Bool.false_eq_true, if_false]
    rw [Apu.fourStep_frame]
    simp
  | true =>
    simp only [if_true]
    rw [Apu.fiveStep_frame]
    simp

/-- What a tick can change outside the channels and the sample (R940, R955). -/
theorem Apu.tick_frame (low : SweepLowTest) (u : Apu) : u.tick low = { u with
    pulse1 := (u.tick low).pulse1, pulse2 := (u.tick low).pulse2
    tri := (u.tick low).tri, noise := (u.tick low).noise, sample := (u.tick low).sample
    cycle := u.cycle + 1
    fsCount := if u.fsCount + 1 = u.framePeriod then 0 else u.fsCount + 1
    frameIrq := u.frameIrq || (!u.fsMode && !u.irqInhibit && decide (u.fsCount + 1 = 29829)) } := by
  unfold Apu.tick
  rw [Apu.sequencer_frame]
  dsimp only
  split <;> rfl

/-- Settles O45, by induction on the ticks. -/
theorem frameIrqTiming : Obligations.FrameIrqTiming := by
  intro low u n hcount hirq
  induction n with
  | zero => simp [hcount, hirq]
  | succ n ih =>
    obtain ⟨hmode, hinhibit, hcount, hirq⟩ := ih
    dsimp only
    rw [Function.iterate_succ_apply', Apu.tick_frame]
    refine ⟨hmode, hinhibit, ?_, ?_⟩
    · dsimp only
      rw [Apu.framePeriod, hmode, hcount]
      cases u.fsMode <;> simp only [Bool.false_eq_true, if_false, if_true] <;> split_ifs <;> omega
    · dsimp only
      rw [hmode, hinhibit, hcount, hirq, ← Bool.and_or_distrib_left, ← Bool.decide_or]
      cases u.fsMode with
      | false =>
        have hfirst : (29829 ≤ n ∨ n % 29830 + 1 = 29829) ↔ 29829 ≤ n + 1 := by omega
        simp only [Bool.false_eq_true, if_false, hfirst]
      | true => rfl

/-! ### The control registers -/

theorem busWrite_4015 (d : Byte) (s : State) : busWrite 0x4015 d s = { s with apu := s.apu.writeEnable d } := rfl

theorem busWrite_4017 (d : Byte) (s : State) :
    busWrite 0x4017 d s = { s with apu := s.apu.writeFrame s.cfg.sweepLowTest d } := rfl

/-- What a `$4017` write does outside the channels, in either mode (R941). -/
theorem Apu.writeFrame_frame (low : SweepLowTest) (u : Apu) (d : Byte) : u.writeFrame low d = { u with
    pulse1 := (u.writeFrame low d).pulse1, pulse2 := (u.writeFrame low d).pulse2
    tri := (u.writeFrame low d).tri, noise := (u.writeFrame low d).noise
    fsMode := d.getLsbD 7, irqInhibit := d.getLsbD 6, frameIrq := u.frameIrq && !d.getLsbD 6, fsCount := 0 } := by
  unfold Apu.writeFrame
  dsimp only
  split <;> rfl

/-- Five bits set in a zero byte, as a number. -/
theorem setBits_toNat : ∀ b0 b1 b2 b3 b6 : Bool,
    (setBit (setBit (setBit (setBit (setBit 0 0 b0) 1 b1) 2 b2) 3 b3) 6 b6).toNat =
      bit b0 + 2 * bit b1 + 4 * bit b2 + 8 * bit b3 + 64 * bit b6 := by decide

/-- Settles O46, register by register. -/
theorem apuControl : Obligations.ApuControl := by
  intro s d
  rw [busWrite_4017, busWrite_4015, busRead_4015, Apu.writeFrame_frame]
  exact ⟨⟨rfl, rfl, rfl, rfl, rfl⟩, ⟨rfl, rfl, rfl, rfl, rfl, rfl, rfl, rfl, rfl⟩, setBits_toNat .., rfl⟩

/-! ### The sweep unit -/

/-- The target period with the channels' two negations as one difference (R945). -/
theorem Pulse.target_eq (n : Nat) (c : Pulse) : c.target n =
    if c.sweepNeg then c.period.toNat - (c.period.toNat : Int) / 2 ^ c.sweepShift.toNat - (if n = 1 then 1 else 0)
    else c.period.toNat + (c.period.toNat : Int) / 2 ^ c.sweepShift.toNat := by
  unfold Pulse.target
  cases c.sweepNeg
  · rfl
  · by_cases hn : n = 1 <;> simp [hn]

/-- A shift that is not 0 takes away at most half of the period (R945). -/
theorem Pulse.change_le_half {c : Pulse} (hshift : c.sweepShift ≠ 0) :
    (c.period.toNat : Int) / 2 ^ c.sweepShift.toNat ≤ c.period.toNat / 2 := by
  have hpos : c.sweepShift.toNat ≠ 0 := fun h => hshift (BitVec.eq_of_toNat_eq h)
  have hpow : 2 ^ 1 ≤ 2 ^ c.sweepShift.toNat := Nat.pow_le_pow_right (by decide) (by omega)
  exact_mod_cast Nat.div_le_div_left hpow (by decide)

/-- The target of a sweep that is not muted fits in 11 bits (R945). -/
theorem Pulse.target_fits {low : SweepLowTest} {n : Nat} {c : Pulse} (hshift : c.sweepShift ≠ 0)
    (hmuted : c.muted low n = false) : 0 ≤ c.target n ∧ c.target n < 2048 := by
  have hhalf := Pulse.change_le_half hshift
  have hchange : 0 ≤ (c.period.toNat : Int) / 2 ^ c.sweepShift.toNat := by positivity
  rw [Pulse.muted.eq_def, Bool.or_eq_false_iff, decide_eq_false_iff_not] at hmuted
  obtain ⟨hhigh, hlow⟩ := hmuted
  refine ⟨?_, by omega⟩
  cases low with
  | target =>
    have hlow := of_decide_eq_false hlow
    omega
  | current =>
    have hlow := of_decide_eq_false hlow
    rw [Pulse.target_eq]
    split_ifs <;> omega

/-- The period after a half-frame clock, as an integer (R945). -/
theorem Pulse.sweepClock_period (low : SweepLowTest) (n : Nat) (c : Pulse) :
    ((c.sweepClock low n).period.toNat : Int) =
      if c.sweepDiv = 0 ∧ c.sweepEn = true ∧ c.sweepShift ≠ 0 ∧ c.muted low n = false then c.target n
      else c.period.toNat := by
  simp only [Pulse.sweepClock, Bool.and_eq_true, beq_iff_eq, bne_iff_ne, Bool.not_eq_true', and_assoc]
  split
  · next h =>
    obtain ⟨-, -, hshift, hmuted⟩ := h
    obtain ⟨hnonneg, hlt⟩ := Pulse.target_fits hshift hmuted
    rw [BitVec.toNat_ofInt]
    omega
  · rfl

/-- Settles O47: the period stored is the target modulo 2048, and a target that is not muted is below 2048. -/
theorem sweepAdjusts : Obligations.SweepAdjusts := by
  intro low n c _
  dsimp only
  have hperiod := Pulse.sweepClock_period low n c
  rw [Pulse.muted.eq_def, Pulse.target_eq] at hperiod
  exact hperiod

/-! ### The channel outputs -/

theorem Envelope.volume_le (e : Envelope) : e.volume ≤ 15 := by
  unfold Envelope.volume
  split
  · exact Nat.le_of_lt_succ e.vol.isLt
  · exact Nat.le_of_lt_succ e.decay.isLt

theorem Pulse.output_le (low : SweepLowTest) (n : Nat) (c : Pulse) : c.output low n ≤ 15 := by
  unfold Pulse.output
  split
  · exact Nat.zero_le _
  · exact c.env.volume_le

theorem Noise.output_le (c : Noise) : c.output ≤ 15 := by
  unfold Noise.output
  split
  · exact Nat.zero_le _
  · exact c.env.volume_le

theorem triSequence_le : ∀ i : BitVec 5, triSequence.getD i.toNat 0 ≤ 15 := by decide

theorem Apu.triOutput_le (u : Apu) : u.triOutput ≤ 15 := by
  unfold Apu.triOutput
  split
  · exact triSequence_le _
  · exact Nat.zero_le _

/-! ### The mixer -/

/-- The curve of either half of the mixer: `a / (b / x + 100)`, and 0 in silence (R954). -/
def mixCurve (a b x : Rat) : Rat := if x = 0 then 0 else a / (b / x + 100)

section

variable {a b x y : Rat} (ha : 0 < a) (hb : 0 < b)

include ha hb

theorem mixCurve_pos (hx : 0 < x) : 0 < mixCurve a b x := by
  rw [mixCurve, if_neg hx.ne']
  positivity

theorem mixCurve_nonneg (hx : 0 ≤ x) : 0 ≤ mixCurve a b x := by
  obtain rfl | hpos := hx.eq_or_lt
  · exact (if_pos rfl).ge
  · exact (mixCurve_pos ha hb hpos).le

theorem mixCurve_eq_zero_iff (hx : 0 ≤ x) : mixCurve a b x = 0 ↔ x = 0 :=
  ⟨fun h => hx.eq_or_lt.elim Eq.symm fun hpos => absurd h (mixCurve_pos ha hb hpos).ne', fun h => if_pos h⟩

theorem mixCurve_mono (hx : 0 ≤ x) (hxy : x ≤ y) : mixCurve a b x ≤ mixCurve a b y := by
  obtain rfl | hpos := hx.eq_or_lt
  · exact (if_pos rfl).trans_le (mixCurve_nonneg ha hb hxy)
  · have hypos := hpos.trans_le hxy
    rw [mixCurve, mixCurve, if_neg hpos.ne', if_neg hypos.ne']
    gcongr

end

section

variable (p1 p2 : Nat)

theorem pulseMix_eq : pulseMix p1 p2 = mixCurve (9588 / 100) 8128 ((p1 + p2 : Nat) : Rat) := by
  simp only [pulseMix, mixCurve, Nat.cast_eq_zero]

theorem pulseMix_nonneg : 0 ≤ pulseMix p1 p2 := by
  rw [pulseMix_eq]
  exact mixCurve_nonneg (by norm_num) (by norm_num) (Nat.cast_nonneg _)

theorem pulseMix_eq_zero_iff : pulseMix p1 p2 = 0 ↔ p1 = 0 ∧ p2 = 0 := by
  rw [pulseMix_eq, mixCurve_eq_zero_iff (by norm_num) (by norm_num) (Nat.cast_nonneg _), Nat.cast_eq_zero,
    Nat.add_eq_zero_iff]

end

theorem pulseMix_mono {p1 p2 q1 q2 : Nat} (h1 : p1 ≤ q1) (h2 : p2 ≤ q2) : pulseMix p1 p2 ≤ pulseMix q1 q2 := by
  rw [pulseMix_eq, pulseMix_eq]
  exact mixCurve_mono (by norm_num) (by norm_num) (Nat.cast_nonneg _) (Nat.cast_le.mpr (Nat.add_le_add h1 h2))

/-- The load of the triangle and the noise channel on their half of the mixer (R954). -/
def tndLoad (tri noise : Nat) : Rat := (tri : Rat) / 8227 + (noise : Rat) / 12241

section

variable (tri noise : Nat)

theorem tndLoad_nonneg : 0 ≤ tndLoad tri noise := by
  unfold tndLoad
  positivity

theorem tndLoad_eq_zero_iff : tndLoad tri noise = 0 ↔ tri = 0 ∧ noise = 0 := by
  rw [tndLoad, add_eq_zero_iff_of_nonneg (by positivity) (by positivity)]
  simp

theorem tndMix_eq : tndMix tri noise = mixCurve (15979 / 100) 1 (tndLoad tri noise) := by
  simp only [tndMix, mixCurve, tndLoad_eq_zero_iff]
  rfl

theorem tndMix_nonneg : 0 ≤ tndMix tri noise := by
  rw [tndMix_eq]
  exact mixCurve_nonneg (by norm_num) (by norm_num) (tndLoad_nonneg tri noise)

theorem tndMix_eq_zero_iff : tndMix tri noise = 0 ↔ tri = 0 ∧ noise = 0 := by
  rw [tndMix_eq, mixCurve_eq_zero_iff (by norm_num) (by norm_num) (tndLoad_nonneg tri noise), tndLoad_eq_zero_iff]

end

theorem tndMix_mono {tri noise tri' noise' : Nat} (ht : tri ≤ tri') (hn : noise ≤ noise') :
    tndMix tri noise ≤ tndMix tri' noise' := by
  have hload : tndLoad tri noise ≤ tndLoad tri' noise' := by
    unfold tndLoad
    gcongr
  rw [tndMix_eq, tndMix_eq]
  exact mixCurve_mono (by norm_num) (by norm_num) (tndLoad_nonneg tri noise) hload

/-- Settles O48: each half of the mixer is a curve that is 0 at 0 and grows. -/
theorem mixerRange : Obligations.MixerRange := by
  refine ⟨Pulse.output_le, fun u => ⟨u.triOutput_le, u.noise.output_le⟩, add_zero 0, fun p1 p2 t n hp1 hp2 ht hn => ?_⟩
  have hpulse := pulseMix_nonneg p1 p2
  have htnd := tndMix_nonneg t n
  refine ⟨add_nonneg hpulse htnd, add_le_add (pulseMix_mono hp1 hp2) (tndMix_mono ht hn), fun hzero => ?_⟩
  rwa [mix, add_eq_zero_iff_of_nonneg hpulse htnd, pulseMix_eq_zero_iff, tndMix_eq_zero_iff, and_assoc] at hzero

end Sys2Proof.Machine
end

section
/-! PROOFS. The cycles an instruction spends (R330-R332): at least those of its cell in the map, by mnemonic from the
shapes of access. -/

namespace Sys2Proof.Machine

/-- The result is a next state, and at least c cycles were added to the counter of s. -/
def Spends (c : Nat) (s : State) (r : StepResult) : Prop := ∃ t, r = .next t ∧ s.cycles + c ≤ t.cycles

/-! ### The stack and exceptions -/

@[simp] theorem push_cycles (v : Byte) (s : State) : (push v s).cycles = s.cycles := by rw [push_eq]
@[simp] theorem pushWord_cycles (v : Word) (s : State) : (pushWord v s).cycles = s.cycles := by rw [pushWord_eq]
@[simp] theorem pull_cycles (s : State) : (pull s).2.cycles = s.cycles := by rw [pull_eq]
@[simp] theorem pullWord_cycles (s : State) : (pullWord s).2.cycles = s.cycles := by rw [pullWord_eq]
@[simp] theorem takeException_cycles (vec : Word) (b : Byte) (s : State) :
    (takeException vec b s).cycles = s.cycles := by simp [takeException, readWord]
@[simp] theorem returnFromException_cycles (s : State) : (returnFromException s).cycles = s.cycles := by
  rw [returnFromException_eq]

/-! ### The shapes of access -/

section
variable {s u : State} {c n : Nat}

theorem spends_spend (hn : c ≤ n) (h : u.cycles = s.cycles) : Spends c s (.next (spend n u)) :=
  ⟨_, rfl, by rw [spend_cycles, h]; omega⟩

theorem implied_spends {g : State → State} (hg : (g s).cycles = s.cycles) : Spends c s (implied c g s) :=
  spends_spend le_rfl hg

theorem readWith_spends {o : Source} {g : Byte → State → State} (hg : ∀ v t, (g v t).cycles = t.cycles) :
    Spends c s (readWith c o g s) :=
  spends_spend (Nat.le_add_right ..) ((hg _ _).trans (readSource_cycles o s))

/-- A DMA stall adds to an instruction's own cycles (R221). -/
theorem le_writeCycles (c : Nat) (addr : Word) (n : Nat) : c ≤ writeCycles c addr n :=
  writeCycles_eq c addr n ▸ Nat.le_add_right ..

theorem storeAt_spends {addr : Word} {v : Byte} (h : u.cycles = s.cycles) : Spends c s (storeAt c addr v u) :=
  spends_spend (le_writeCycles ..) ((busWrite_cycles addr v u).trans h)

theorem modify_spends {m : MemForm} {op : Byte → State → Byte × State} {g : Byte → State → State}
    (hop : ∀ v t, (op v t).2.cycles = t.cycles) (hg : ∀ v t, (g v t).cycles = t.cycles) :
    Spends c s (modify c m op g s) :=
  spends_spend (le_writeCycles ..) (by simp [hop, hg])

theorem modifyA_spends {op : Byte → State → Byte × State} (hop : ∀ v t, (op v t).2.cycles = t.cycles) :
    Spends c s (modifyA c op s) :=
  spends_spend le_rfl (hop _ s)

theorem branch_spends {cond : Bool} {d : Int} : Spends c s (branch c cond d s) := by
  cases cond with
  | false => exact spends_spend le_rfl rfl
  | true => exact spends_spend (Nat.le_trans (Nat.le_add_right c 1) (Nat.le_add_right ..)) rfl

end

/-! ### Every instruction but JAM -/

/-- An instruction that is not JAM spends its base cycles at least (R330). -/
theorem exec_spends {i : Instr} (s : State) (hjam : i.mnemonic ≠ .jam) : Spends i.cycles s (exec i s) := by
  cases hi : i.mnemonic with
  | jam => exact absurd hi hjam
  | lda | ldx | ldy | lax | adc | sbc | and | ora | eor | bit | cmp | cpx | cpy | anc | alr | arr
  | sbx | ane | lxa | las =>
    obtain ⟨o, -, he⟩ := onOperand_eq (meaning_eq s hi)
    exact he ▸ readWith_spends fun _ _ => rfl
  | sta | stx | sty | sax | sha | shx | shy | tas =>
    obtain ⟨m, -, he⟩ := onMem_eq (meaning_eq s hi)
    exact he ▸ storeAt_spends rfl
  | inc | dec | slo | rla | sre | rra | dcp | isc =>
    obtain ⟨m, -, he⟩ := onMem_eq (meaning_eq s hi)
    exact he ▸ modify_spends (fun _ _ => rfl) fun _ _ => rfl
  | asl | lsr | rol | ror =>
    obtain ⟨m, -, he⟩ | ⟨-, he⟩ := onShift_eq (meaning_eq s hi)
    · exact he ▸ modify_spends (fun _ _ => rfl) fun _ _ => rfl
    · exact he ▸ modifyA_spends fun _ _ => rfl
  | bpl | bmi | bvc | bvs | bcc | bcs | bne | beq =>
    obtain ⟨d, -, he⟩ := onRelative_eq (meaning_eq s hi)
    exact he ▸ branch_spends
  | tax | tay | txa | tya | tsx | txs | inx | iny | dex | dey | clc | sec | cli | sei | cld | sed
  | clv => exact (onImplied_eq (meaning_eq s hi)).2 ▸ implied_spends rfl
  | pha | php => exact (onImplied_eq (meaning_eq s hi)).2 ▸ implied_spends (push_cycles _ s)
  | pla | plp => exact (onImplied_eq (meaning_eq s hi)).2 ▸ implied_spends (pull_cycles s)
  | rts => exact (onImplied_eq (meaning_eq s hi)).2 ▸ implied_spends (pullWord_cycles s)
  | rti => exact (onImplied_eq (meaning_eq s hi)).2 ▸ implied_spends (returnFromException_cycles s)
  | jmp =>
    obtain ⟨a, -, he⟩ | ⟨a, -, he⟩ := exec_jmp s hi
    · exact he ▸ implied_spends rfl
    · exact he ▸ spends_spend le_rfl ((busRead_cycles _ _).trans (busRead_cycles a s))
  | jsr =>
    obtain ⟨a, -, he⟩ := exec_jsr s hi
    exact he ▸ implied_spends (pushWord_cycles _ s)
  | brk =>
    obtain ⟨sig, -, he⟩ := exec_brk s hi
    exact he ▸ implied_spends (takeException_cycles _ _ s)
  | nop =>
    obtain ⟨-, he⟩ | ⟨o, -, he⟩ := exec_nop s hi
    · exact he ▸ implied_spends rfl
    · exact he ▸ readWith_spends fun _ _ => rfl

/-- The cells of the map count 2 cycles or more (R325). -/
theorem two_le_opcodeCycles : ∀ op : Byte, (rowOf op).1 ≠ .jam → 2 ≤ opcodeCycles op := by decide +kernel

theorem two_le_cycles {i : Instr} (h : i.mnemonic ≠ .jam) : 2 ≤ i.cycles :=
  two_le_opcodeCycles i.opcode (by rwa [rowOf_opcode])

end Sys2Proof.Machine
end

section
/-! PROOFS. The lock-step of the PPU and the APU with the CPU's cycles (R1101): an access or a CPU update moves no counter,
a cycle of catch-up moves each by its ticks, and a step catches up what it spends. -/

namespace Sys2Proof.Machine

/-! ### The counters of the devices -/

/-- The PPU's position is as it was (R123). -/
structure Ppu.SamePosition (p q : Ppu) : Prop where
  scanline : q.scanline = p.scanline
  dot : q.dot = p.dot
  frame : q.frame = p.frame

/-- The PPU and the APU have been ticked for n CPU cycles since reset, at a dot of the frame, and one sample emitted for
each cycle from `start` on (R1100, R1101, R1122). -/
structure TickedTo (start : State) (n : Nat) (s : State) : Prop where
  apu : s.apu.cycle = n
  ppu : 89342 * s.ppu.frame + 341 * s.ppu.scanline + s.ppu.dot = 3 * n
  scanline : s.ppu.scanline ≤ 261
  dot : s.ppu.dot ≤ 340
  samples : s.samples.length + start.cycles = start.samples.length + n

/-- A write to a PPU port does not move the PPU (R800-R808). -/
theorem portWrite_samePosition (n : Nat) (d : Byte) (s : State) : s.ppu.SamePosition (portWrite n d s).ppu := by
  unfold portWrite writeScroll writeAddr ppuWrite
  dsimp only
  split
  iterate 5 exact ⟨rfl, rfl, rfl⟩
  · split <;> exact ⟨rfl, rfl, rfl⟩
  · split <;> exact ⟨rfl, rfl, rfl⟩
  · split_ifs <;> exact ⟨rfl, rfl, rfl⟩

/-- A write to a channel's register is no tick (R910-R931). -/
theorem Apu.write_cycle (u : Apu) (a : Nat) (d : Byte) : (u.write a d).cycle = u.cycle := by
  unfold Apu.write
  split <;> rfl

/-- The clocks a `$4017` write makes are no tick (R941). -/
theorem Apu.writeFrame_cycle (low : SweepLowTest) (u : Apu) (d : Byte) : (u.writeFrame low d).cycle = u.cycle := by
  unfold Apu.writeFrame
  dsimp only
  split <;> rfl

namespace TickedTo

variable {start s t : State} {n : Nat} {ws : List Slot}

/-- The same counters make the same ticks. -/
theorem of_same (h : TickedTo start n s) (hapu : t.apu.cycle = s.apu.cycle) (hppu : s.ppu.SamePosition t.ppu)
    (hsamples : t.samples = s.samples) : TickedTo start n t where
  apu := hapu.trans h.apu
  ppu := by rw [hppu.frame, hppu.scanline, hppu.dot, h.ppu]
  scanline := hppu.scanline ▸ h.scanline
  dot := hppu.dot ▸ h.dot
  samples := hsamples ▸ h.samples

theorem busRead (h : TickedTo start n s) (addr : Word) : TickedTo start n (busRead addr s).2 :=
  h.of_same (by rw [busRead_apu]) (by rw [busRead_ppu]; exact ⟨rfl, rfl, rfl⟩) (busRead_samples addr s)

theorem portWrite (h : TickedTo start n s) (k : Nat) (d : Byte) : TickedTo start n (portWrite k d s) :=
  h.of_same (by rw [portWrite_frame]) (portWrite_samePosition k d s) (by rw [portWrite_frame])

theorem busWrite (h : TickedTo start n s) (addr : Word) (d : Byte) : TickedTo start n (busWrite addr d s) := by
  unfold Machine.busWrite
  dsimp only
  split_ifs
  · exact { h with }
  · exact h.portWrite _ d
  · exact { h with apu := (s.apu.write_cycle _ d).trans h.apu }
  · exact oamDmaFrom_keeps (Q := TickedTo start n) (fun addr _ h => h.busRead addr) (fun v _ h => h.portWrite 4 v) d 256 0 h
  · exact { h with }
  · exact { h with }
  · exact { h with apu := (s.apu.writeFrame_cycle _ d).trans h.apu }
  · exact h
  · exact { h with }

/-- Bus accesses and CPU updates make no tick (R1100). -/
theorem effect (h : TickedTo start n s) (he : Effect ws s t) : TickedTo start n t := by
  induction he with
  | refl => exact h
  | cpu _ hu ih =>
    rw [hu.outside]
    exact { ih with }
  | read addr _ ih => exact ih.busRead addr
  | write addr d _ ih => exact ih.busWrite addr d

/-- One cycle of catch-up is three dots, one APU tick and one sample (R1100). -/
theorem cycleTick (h : TickedTo start n s) : TickedTo start (n + 1) (cycleTick s) := by
  obtain ⟨hp1, hl1, hd1, -⟩ := dotAdvance s h.scanline h.dot
  obtain ⟨hp2, hl2, hd2, -⟩ := dotAdvance (ppuTick s) hl1 hd1
  obtain ⟨hp3, hl3, hd3, -⟩ := dotAdvance (ppuTick (ppuTick s)) hl2 hd2
  have hppu := h.ppu
  have hsamples := h.samples
  exact {
    apu := by rw [cycleTick_frame, Apu.tick_frame, h.apu]
    ppu := by
      show 89342 * (ppuTick (ppuTick (ppuTick s))).ppu.frame + 341 * (ppuTick (ppuTick (ppuTick s))).ppu.scanline +
        (ppuTick (ppuTick (ppuTick s))).ppu.dot = _
      omega
    scanline := hl3
    dot := hd3
    samples := by rw [cycleTick_frame, List.length_cons]; omega }

theorem catchUp (k : Nat) : ∀ {n : Nat} {s : State}, TickedTo start n s → TickedTo start (n + k) (catchUp k s) := by
  induction k with
  | zero => exact fun h => h
  | succ k ih =>
    intro n s h
    rw [show n + (k + 1) = n + 1 + k by omega]
    exact ih h.cycleTick

end TickedTo

/-! ### A step -/

/-- An interrupt entry with the catch-up of its 7 cycles (R710, R716). -/
theorem ticked_entry {start s : State} (vec : Word) (h : TickedTo start s.cycles s) :
    TickedTo start (catchUp 7 (enter vec s)).cycles (catchUp 7 (enter vec s)) := by
  have hcycles : (catchUp 7 (enter vec s)).cycles = s.cycles + 7 := by simp [enter]
  rw [hcycles]
  exact (h.effect ((Effect.takeException vec _ s).spend 7)).catchUp 7

/-- The poll takes no interrupt, or one with the catch-up of its cycles (R715). -/
theorem ticked_poll {start s : State} (h : TickedTo start s.cycles s) :
    TickedTo start (poll s).cycles (poll s) ∧ s.cycles ≤ (poll s).cycles := by
  unfold poll
  split
  · exact ⟨ticked_entry (s := { s with ppu := { s.ppu with nmiRequest := false } }) _ { h with }, by simp [enter]⟩
  · split
    · exact ⟨ticked_entry _ h, by simp [enter]⟩
    · exact ⟨h, le_rfl⟩

/-- What follows an instruction catches up the cycles it spent, and the poll's own (R1100). -/
theorem ticked_complete {start s t : State} (h : TickedTo start s.cycles t) (hspent : s.cycles ≤ t.cycles)
    (hnone : t.fault = none) :
    TickedTo start (complete s t).cycles (complete s t) ∧ t.cycles ≤ (complete s t).cycles := by
  have hcaught : TickedTo start (catchUp (t.cycles - s.cycles) t).cycles (catchUp (t.cycles - s.cycles) t) := by
    rw [catchUp_cycles]
    simpa only [Nat.add_sub_cancel' hspent] using h.catchUp (t.cycles - s.cycles)
  simpa [complete, hnone] using ticked_poll hcaught

@[simp] theorem fetchByte_cycles (s : State) : (fetchByte s).2.cycles = s.cycles := by rw [fetchByte_frame]

@[simp] theorem fetchInstr_cycles (s : State) : (fetchInstr s).2.cycles = s.cycles := by
  unfold fetchInstr
  dsimp only
  split <;> simp

/-- A step that records a fault spends nothing and ticks nothing; another spends 2 cycles at least, and the devices are
ticked for every cycle spent (R1100, R1101). -/
theorem ticked_step {s t : State} (h : TickedTo s s.cycles s) (hstep : step s = .next t) :
    TickedTo s t.cycles t ∧ s.cycles ≤ t.cycles ∧ (t.fault = none → s.cycles + 2 ≤ t.cycles) := by
  obtain ⟨hfault, u, hu, rfl⟩ := step_next hstep
  have hticked : TickedTo s s.cycles u := (h.effect (fetchInstr_effect s)).effect (exec_effect hu)
  by_cases hjam : (fetchInstr s).1.mnemonic = .jam
  · obtain rfl : raiseFatal _ (fetchInstr s).2 = u := Host.Outcome.next.inj ((exec_jam _ hjam).2.symm.trans hu)
    have hcycles : (raiseFatal (fetchInstr s).1.opcode (fetchInstr s).2).cycles = s.cycles := by simp
    exact ⟨hcycles ▸ hticked, hcycles.ge, nofun⟩
  · obtain ⟨v, hv, hnone⟩ := exec_completes (fetchInstr s).2 hjam
    obtain ⟨w, hw, hspent⟩ := exec_spends (fetchInstr s).2 hjam
    cases hv.symm.trans hu
    cases hw.symm.trans hv
    have htwo := two_le_cycles hjam
    rw [fetchInstr_cycles] at hspent
    obtain ⟨hall, hlater⟩ := ticked_complete hticked (by omega) (by simp [hnone, hfault])
    exact ⟨hall, by omega, fun _ => by omega⟩

/-- Settles O59: by `ticked_step`, from a state whose counters agree. -/
theorem lockStepKept : Obligations.LockStepKept := by
  rintro s t hs ⟨hapu, hppu⟩ hstep
  have hposition := ((inv_iff s).mp hs).ppu
  obtain ⟨hticked, hle, htwo⟩ := ticked_step ⟨hapu, hppu, hposition.scanline, hposition.dot, rfl⟩ hstep
  have hsamples := hticked.samples
  exact ⟨⟨hticked.apu, hticked.ppu⟩, htwo, by omega⟩

end Sys2Proof.Machine
end

section
/-! PROOFS. The cartridge (R1005-R1040): the PRG windows as offsets into PRG-ROM, the serial port of MMC1 write by write,
and the counter of MMC3 clock by clock. -/

namespace Sys2Proof.Machine

/-! ### The PRG windows -/

/-- At or above 0x8000 a read is of PRG-ROM, at the variant's offset (R1006, R1007). -/
theorem Cartridge.read_of_rom (c : Cartridge) {a : Nat} (h : 0x8000 ≤ a) :
    c.read a = Cells.read c.prg (c.prgOffset a % c.prgSize) :=
  if_neg (Nat.not_lt.mpr h)

/-- At or above 0x8000 a write is the mapper's (R1006, R1010). -/
theorem Cartridge.write_of_rom (c : Cartridge) {b : Nat} (h : 0x8000 ≤ b) (d : Byte) :
    c.write b d = { c with mapper := c.mapper.write b d } := by
  unfold Cartridge.write
  rw [if_neg (by omega), if_neg (by omega)]

/-- MMC3 has the last 8 KB bank at 0xE000 (R1031). -/
theorem Mmc3.prgOffset_last (m : Mmc3) (prgBanks : Nat) {a : Nat} (h : 0xE000 ≤ a) :
    m.prgOffset prgBanks a = (2 * prgBanks - 1) * 8192 + a % 0x2000 := by
  unfold Mmc3.prgOffset
  dsimp only
  rw [if_neg (by omega), if_neg (by omega), if_neg (by omega)]

/-- The PRG bank of a GxROM write: bits 5..4 (R1040). -/
theorem gxromPrgBank_toNat (d : Byte) : ((d >>> 4).setWidth 2).toNat = d.toNat / 16 % 4 := by
  rw [BitVec.toNat_setWidth, BitVec.toNat_ushiftRight, Nat.shiftRight_eq_div_pow]

/-- A read at an offset within PRG-ROM is of that byte (R1007). -/
theorem Cartridge.read_of_prgOffset {c : Cartridge} {a o : Nat} (h : 0x8000 ≤ a) (hoffset : c.prgOffset a = o)
    (hlt : o < 16384 * c.prgBanks) : c.read a = Cells.read c.prg o := by
  rw [c.read_of_rom h, hoffset, Cartridge.prgSize, Nat.mod_eq_of_lt hlt]

/-- Settles O49: by each variant's offset, which only the mirror of NROM takes past PRG-ROM. -/
theorem prgWindows : Obligations.PrgWindows := by
  intro c a hlow hhigh
  refine ⟨fun hm hbanks => ?mirrored, fun hm hbanks => ?straight, fun m hm hbanks ha => ?last,
    fun m b d hm hbanks hb _ => ?selected⟩
  case mirrored => rw [c.read_of_rom hlow, Cartridge.prgOffset, hm, Cartridge.prgSize, hbanks]
  case straight => exact Cartridge.read_of_prgOffset hlow (by rw [Cartridge.prgOffset, hm]) (by omega)
  case last =>
    exact Cartridge.read_of_prgOffset hlow (by rw [Cartridge.prgOffset, hm]; exact m.prgOffset_last _ ha) (by omega)
  case selected =>
    have hoffset : (c.write b d).prgOffset a = d.toNat / 16 % 4 * 32768 + (a - 0x8000) := by
      rw [c.write_of_rom hb, Cartridge.prgOffset, hm, ← gxromPrgBank_toNat]
      rfl
    have hbanks' : (c.write b d).prgBanks = 8 := by rw [c.write_of_rom hb, hbanks]
    rw [Cartridge.read_of_prgOffset hlow hoffset (by omega), c.write_of_rom hb]

/-! ### The serial port of MMC1 -/

/-- The shift register after a bit: the others one place down, the new one on top (R1020). -/
def serialShift (shift : BitVec 5) (d : Byte) : BitVec 5 := (shift >>> 1) ||| ((d.setWidth 5 &&& 1) <<< 4)

theorem serialShift_toNat (shift : BitVec 5) (d : Byte) :
    (serialShift shift d).toNat = shift.toNat / 2 + 16 * (d.toNat % 2) := by
  have hbit : d.setWidth 5 &&& 1 = BitVec.ofNat 5 (d.toNat % 2) := by
    apply BitVec.eq_of_toNat_eq
    simp [Nat.and_one_is_mod]
    omega
  rw [serialShift, hbit]
  obtain h | h := Nat.mod_two_eq_zero_or_one d.toNat <;> rw [h] <;> revert shift <;> decide

namespace Mmc1

variable (m : Mmc1) (a : Nat) {d : Byte}

/-- A write with bit 7 set empties the port and selects PRG mode 3 (R1020). -/
theorem write_reset (h : d.getLsbD 7 = true) :
    m.write a d = { m with shift := 0, count := 0, control := m.control ||| 0x0C } := if_pos h

/-- A write before the fifth shifts its bit in, whatever its address (R1020). -/
theorem write_shift (h : d.getLsbD 7 = false) (hcount : m.count < 4) :
    m.write a d = { m with shift := serialShift m.shift d, count := m.count + 1 } := by
  unfold Mmc1.write
  rw [h, if_neg Bool.false_ne_true, if_neg (by omega)]
  rfl

/-- The fifth write loads the register its address selects (R1020). -/
theorem write_load (h : d.getLsbD 7 = false) (hcount : m.count = 4) :
    m.write a d = {
      shift := 0, count := 0
      control := if a / 8192 % 4 = 0 then serialShift m.shift d else m.control
      chr0 := if a / 8192 % 4 = 1 then serialShift m.shift d else m.chr0
      chr1 := if a / 8192 % 4 = 2 then serialShift m.shift d else m.chr1
      prgBank := if a / 8192 % 4 = 3 then serialShift m.shift d else m.prgBank } := by
  have hquarter : a / 8192 % 4 < 4 := Nat.mod_lt _ (by decide)
  unfold Mmc1.write
  rw [h, if_neg Bool.false_ne_true, if_pos (by rw [hcount])]
  generalize a / 8192 % 4 = q at hquarter
  interval_cases q <;> rfl

end Mmc1

/-- Settles O50, write by write. -/
theorem mmc1FiveWrites : Obligations.Mmc1FiveWrites := by
  intro m r d0 d1 d2 d3 d4 a0 a1 a2 a3 a4 b hr hd hlow hhigh
  simp only [List.forall_mem_cons] at hd
  obtain ⟨h0, h1, h2, h3, h4, -⟩ := hd
  have hloaded : serialShift (serialShift (serialShift (serialShift (serialShift 0 d0) d1) d2) d3) d4 =
      BitVec.ofNat 5 (d0.toNat % 2 + 2 * (d1.toNat % 2) + 4 * (d2.toNat % 2) + 8 * (d3.toNat % 2) +
        16 * (d4.toNat % 2)) := by
    apply BitVec.eq_of_toNat_eq
    simp only [serialShift_toNat, BitVec.toNat_ofNat]
    omega
  have hcontrol : b / 8192 % 4 = 0 ↔ b < 0xA000 := by omega
  have hchr0 : b / 8192 % 4 = 1 ↔ 0xA000 ≤ b ∧ b < 0xC000 := by omega
  have hchr1 : b / 8192 % 4 = 2 ↔ 0xC000 ≤ b ∧ b < 0xE000 := by omega
  have hprg : b / 8192 % 4 = 3 ↔ 0xE000 ≤ b := by omega
  rw [m.write_reset a0 hr, Mmc1.write_shift _ a1 h0 (by decide : 0 < 4), Mmc1.write_shift _ a2 h1 (by decide : 1 < 4),
    Mmc1.write_shift _ a3 h2 (by decide : 2 < 4), Mmc1.write_shift _ a4 h3 (by decide : 3 < 4),
    Mmc1.write_load _ b h4 rfl]
  simp only [hloaded, hcontrol, hchr0, hchr1, hprg, and_self]

/-! ### The counter of MMC3 -/

namespace Mmc3

variable {m : Mmc3} (z : Mmc3IrqZero)

/-- A clock with the reload flag set loads the latch (R1036). -/
theorem clockIrq_reload (h : m.irqReload = true) : m.clockIrq z = { m with
    irqCounter := m.irqLatch, irqReload := false
    irqPending := m.irqPending || (m.irqLatch == 0 && m.irqEnable && z == .onZero) } := by
  simp [clockIrq, h]

/-- A clock of a counter that is not 0 counts down, and raises at 0 under both values of `MMC3_IRQ_ZERO` (R1036). -/
theorem clockIrq_count (h : m.irqCounter ≠ 0) (hreload : m.irqReload = false) : m.clockIrq z = { m with
    irqCounter := m.irqCounter - 1
    irqPending := m.irqPending || (m.irqCounter - 1 == 0 && m.irqEnable) } := by
  have hraise : ∀ c e o : Bool, (c && e && (o || c)) = (c && e) := by decide
  have hdown : (m.irqCounter == 0 || m.irqReload) = false := by rw [beq_false_of_ne h, hreload, Bool.or_self]
  simp only [clockIrq, hdown, Bool.false_eq_true, if_false, Bool.not_false, Bool.true_and, hraise]

/-- After clock n + 1 the counter holds the latch less n, and the IRQ is pending where that is 0 (R1036, R1039). -/
theorem iterate_clockIrq (hlatch : 1 ≤ m.irqLatch.toNat) (hreload : m.irqReload = true) (henable : m.irqEnable = true)
    (hpending : m.irqPending = false) (n : Nat) : n ≤ m.irqLatch.toNat →
    let t := (clockIrq z)^[n + 1] m
    t.irqCounter.toNat = m.irqLatch.toNat - n ∧ t.irqReload = false ∧ t.irqEnable = true ∧
      t.irqPending = decide (n = m.irqLatch.toNat) := by
  induction n with
  | zero =>
    intro _
    have hne : (m.irqLatch == 0) = false := beq_false_of_ne fun h => by simp [h] at hlatch
    rw [zero_add, Function.iterate_one, clockIrq_reload z hreload, hne, hpending]
    exact ⟨rfl, rfl, henable, (decide_eq_false (by omega)).symm⟩
  | succ n ih =>
    intro hn
    obtain ⟨hcounter, hreload', henable', hpending'⟩ := ih (by omega)
    rw [Function.iterate_succ_apply']
    generalize (clockIrq z)^[n + 1] m = t at *
    have hne : t.irqCounter ≠ 0 := by rintro h; simp [h] at hcounter; omega
    have hdown : (t.irqCounter - 1).toNat = m.irqLatch.toNat - (n + 1) := by bv_omega
    rw [clockIrq_count z hne hreload']
    refine ⟨hdown, hreload', henable', ?_⟩
    have hbefore : n ≠ m.irqLatch.toNat := by omega
    have hzero : t.irqCounter - 1 = 0 ↔ n + 1 = m.irqLatch.toNat := by bv_omega
    simp only [hpending', henable', hbefore, decide_false, Bool.false_or, Bool.and_true, beq_eq_decide, hzero]

end Mmc3

/-- Settles O51: nothing is pending before the first clock, and `Mmc3.iterate_clockIrq` says the rest. -/
theorem mmc3IrqAfterLatch : Obligations.Mmc3IrqAfterLatch := by
  intro z m k hlatch hreload henable hpending hk
  cases k with
  | zero => simp [hpending]
  | succ n =>
    obtain ⟨-, -, -, h⟩ := Mmc3.iterate_clockIrq z hlatch hreload henable hpending n (by omega)
    rw [h]
    exact decide_eq_decide.mpr Nat.succ_inj.symm

end Sys2Proof.Machine
end

section
/-! PROOFS. A load (R1003): the check that stops it, and what it answers. -/

namespace Sys2Proof.Machine

/-- The first check of a load: too short for a header, another magic, or no PRG bank (R1003). -/
def BadHeader (img : List Byte) : Prop :=
  img.length < 16 ∨ img.take 4 ≠ [0x4E, 0x45, 0x53, 0x1A] ∨ (img.getD 4 0).toNat = 0

/-- The bytes an image has by its header (R1002). -/
def declaredSize (img : List Byte) : Nat := 16 + 16384 * (img.getD 4 0).toNat + 8192 * (img.getD 5 0).toNat

/-- The four mapper numbers are constructed, and no other (R1003, R1004). -/
theorem Mapper.construct_eq_none (n : Nat) (mirror : Bool) : Mapper.construct n mirror = none ↔ n ∉ [0, 1, 4, 66] := by
  unfold Mapper.construct
  split <;> simp_all

section
variable {img : List Byte} (init : InitMem) (cfg : Config)

theorem powerOn_badHeader (h : BadHeader img) : powerOn img init cfg = .error .badHeader := by
  have hload : loadCartridge img init = .error .badHeader := if_pos h
  rw [powerOn, hload]

variable (hgood : ¬BadHeader img)
include hgood

theorem powerOn_truncated (h : img.length < declaredSize img) : powerOn img init cfg = .error .truncated := by
  have hload : loadCartridge img init = .error .truncated := (if_neg hgood).trans (if_pos h)
  rw [powerOn, hload]

variable (hfull : ¬img.length < declaredSize img)
include hfull

theorem powerOn_unsupported (h : headerMapper (img.take 16) ∉ [0, 1, 4, 66]) :
    powerOn img init cfg = .error (.unsupportedMapper (headerMapper (img.take 16))) := by
  have hload : loadCartridge img init = .error (.unsupportedMapper (headerMapper (img.take 16))) := by
    refine ((if_neg hgood).trans (if_neg hfull)).trans ?_
    rw [(Mapper.construct_eq_none _ _).mpr h]
  rw [powerOn, hload]

theorem powerOn_supported (h : headerMapper (img.take 16) ∈ [0, 1, 4, 66]) : ∃ s, powerOn img init cfg = .ok s := by
  obtain ⟨m, hm⟩ := Option.ne_none_iff_exists'.mp
    (mt (Mapper.construct_eq_none _ (headerMirror (img.take 16))).mp (not_not_intro h))
  have hload : ∃ c, loadCartridge img init = .ok c := by
    apply Exists.intro
    refine ((if_neg hgood).trans (if_neg hfull)).trans ?_
    rw [hm]
  obtain ⟨c, hc⟩ := hload
  exact ⟨_, by rw [powerOn, hc]⟩

end

/-- Settles O56: the first check that fails, if one does, determines the answer. -/
theorem loadErrors : Obligations.LoadErrors := by
  intro img init cfg prgBanks need bad
  by_cases hbad : bad
  · rw [powerOn_badHeader init cfg hbad]
    simp [hbad]
  by_cases hshort : img.length < need
  · rw [powerOn_truncated init cfg hbad hshort]
    simp [hbad, hshort]
  have hfull : need ≤ img.length := Nat.le_of_not_lt hshort
  by_cases hmapper : headerMapper (img.take 16) ∈ [0, 1, 4, 66]
  · obtain ⟨s, hs⟩ := powerOn_supported init cfg hbad hshort hmapper
    rw [hs]
    simp [hbad, hfull, hmapper, -List.mem_cons]
  · rw [powerOn_unsupported init cfg hbad hshort hmapper]
    have hnumber (n : Nat) : headerMapper (img.take 16) = n ↔ n = headerMapper (img.take 16) ∧ n ∉ [0, 1, 4, 66] :=
      ⟨by rintro rfl; exact ⟨rfl, hmapper⟩, fun h => h.1.symm⟩
    simpa [hbad, hfull, hmapper, -List.mem_cons] using hnumber

end Sys2Proof.Machine
end

section
/-! PROOFS. The step as fetch and execution (R321, R1100), and reset (R1200). -/

namespace Sys2Proof.Machine

/-- The fetch reads the bytes the decoder reads and gives what the decoder gives; PC moves past them (R300, R321). -/
theorem fetchInstr_of_decode {s : State} {i : Instr} {rest : List Byte} :
    let f0 := fetchByte s
    let f1 := fetchByte f0.2
    let f2 := fetchByte f1.2
    decode [f0.1, f1.1, f2.1] = .ok (i, rest) →
      let fetched := if rest.length = 2 then f0.2 else if rest.length = 1 then f1.2 else f2.2
      fetchInstr s = (i, fetched) ∧ fetched.pc = s.pc + BitVec.ofNat 16 (3 - rest.length) := by
  intro f0 f1 f2 h
  unfold decode at h
  dsimp only at h
  unfold fetchInstr
  dsimp only
  cases hrow : decodeRow f0.1 with
  | none j =>
    rw [hrow] at h
    cases h
    exact ⟨rfl, rfl⟩
  | byte g =>
    rw [hrow] at h
    cases h
    exact ⟨rfl, BitVec.add_assoc s.pc 1 1⟩
  | word g =>
    rw [hrow] at h
    cases h
    exact ⟨rfl, (BitVec.add_assoc (s.pc + 1) 1 1).trans (BitVec.add_assoc s.pc 1 2)⟩

/-- What follows an instruction depends on the counter it started at only (R1100). -/
theorem complete_congr {s s' : State} (h : s'.cycles = s.cycles) (t : State) : complete s' t = complete s t := by
  rw [complete, complete, h]

/-- Settles O4: by `fetchInstr_of_decode`; a fetch spends no cycle. -/
theorem stepRunsDecoded : Obligations.StepRunsDecoded := by
  intro s i rest hfault f0 f1 f2 hdecode fetched
  obtain ⟨hfetch, hpc⟩ := fetchInstr_of_decode hdecode
  have hcycles : fetched.cycles = s.cycles := congrArg (·.2.cycles) hfetch ▸ fetchInstr_cycles s
  refine ⟨hpc, fun t ht => ?_⟩
  have hexec : exec (fetchInstr s).1 (fetchInstr s).2 = .next t := by
    rw [hfetch]
    exact ht
  rw [step_of_exec hfault hexec, complete_congr hcycles]

/-- Settles O55: each register by the definition of the reset; a faulted machine has none. -/
theorem resetValues : Obligations.ResetValues := by
  refine fun s => ⟨fun hnone => ?defined, fun hsome => ?undefined⟩
  case defined =>
    exact ⟨resetRegisters s, resetMachine_of_none hnone, rfl, rfl, rfl, rfl, rfl, rfl, hnone, hiLo_toNat .., rfl, rfl, rfl,
      rfl, rfl, rfl⟩
  case undefined =>
    obtain ⟨f, hf⟩ := Option.ne_none_iff_exists'.mp hsome
    exact resetMachine_of_fault hf

end Sys2Proof.Machine
end
